-- ==== Sys2Proof/Word.lean ====
section
/-! DEFINITION. The word types of TDN2-ACC (00_scope.md R7, R8). Everything is unsigned; bit 0 is the
least significant bit of every value. -/

namespace Sys2Proof

/-- A 16-bit register, sample or response datum (R7, R8). -/
abbrev U16 := BitVec 16

/-- An operation word on the command port: 24 bits, the only operation length (R80). -/
abbrev CmdWord := BitVec 24

end Sys2Proof
end

