-- ==== Sys2Proof/Syntax.lean ====
section
/-! DEFINITION. The eight operations of TDN2-ACC (30_encoding.md R84) and their operands. An operand's
type holds exactly the values its field of the word holds (R83, R95), so every term is encodable. -/

namespace Sys2Proof

/-- The four channels (R86): numbers 0 to 3 in this order. -/
inductive Channel where
  /-- 0, a water channel. -/
  | waterRef
  /-- 1, a water channel. -/
  | waterMeasure
  /-- 2, a pot channel. -/
  | windThresholdPot
  /-- 3, a pot channel. -/
  | waterThresholdPot
  deriving DecidableEq, Repr

/-- A direction of motion (R87): `DOWN` = 0 lowers, `UP` = 1 raises. -/
inductive Direction where
  | down
  | up
  deriving DecidableEq, Repr

/-- One constructor per row of the opcode table (R84). -/
inductive Instr where
  /-- `NOP` (R210). -/
  | nop
  /-- `SAMPLE ch, raw` (R113). -/
  | sample (ch : Channel) (raw : U16)
  /-- `RDFILT ch` (R116). -/
  | rdfilt (ch : Channel)
  /-- `TICK1S wp, bp` (R170): `wp` is `wind_pre`, `bp` is `button_pressed`. -/
  | tick1s (wp bp : Bool)
  /-- `MOVE dir` (R181). -/
  | move (dir : Direction)
  /-- `STEP` (R185). -/
  | step
  /-- `WDGACK` (R211). -/
  | wdgack
  /-- `RDSTAT idx` (R213). -/
  | rdstat (idx : BitVec 5)
  deriving DecidableEq, Repr

end Sys2Proof
end

