-- ==== Sys2Proof/Decode.lean ====
section
/-! DEFINITION. Operation words: the decoder, total on all 2^24 words and rejecting by name, and the
encoder (30_encoding.md R80 to R87, R92, R95, R96). -/

namespace Sys2Proof

/-- Why a word is illegal (R93 answers both alike). -/
inductive IllegalWord where
  /-- Opcode 0x8 to 0xF (R92). -/
  | reservedOpcode
  /-- A 1 in a bit that the opcode's format marks zero (R85). -/
  | zeroBitSet
  deriving DecidableEq, Repr

/-- One row of the opcode table: a word `w` encodes the operation when `w &&& mask = pattern` (R84). -/
structure OpRow where
  mnemonic : String
  pattern : CmdWord
  mask : CmdWord
  deriving DecidableEq, Repr

def rowNop : OpRow := ⟨"NOP", 0x000000, 0xFFFFFF⟩
def rowSample : OpRow := ⟨"SAMPLE", 0x100000, 0xF30000⟩
def rowRdfilt : OpRow := ⟨"RDFILT", 0x200000, 0xF3FFFF⟩
def rowTick1s : OpRow := ⟨"TICK1S", 0x300000, 0xFFFFFC⟩
def rowMove : OpRow := ⟨"MOVE", 0x400000, 0xFFFFFE⟩
def rowStep : OpRow := ⟨"STEP", 0x500000, 0xFFFFFF⟩
def rowWdgack : OpRow := ⟨"WDGACK", 0x600000, 0xFFFFFF⟩
def rowRdstat : OpRow := ⟨"RDSTAT", 0x700000, 0xFFFFE0⟩

/-- The opcode table of R84, in the table's order. -/
def opcodeTable : List OpRow :=
  [rowNop, rowSample, rowRdfilt, rowTick1s, rowMove, rowStep, rowWdgack, rowRdstat]

/-- The row of an instruction (R84). -/
def rowOf (i : Instr) : OpRow :=
  match i with
  | .nop => rowNop
  | .sample _ _ => rowSample
  | .rdfilt _ => rowRdfilt
  | .tick1s _ _ => rowTick1s
  | .move _ => rowMove
  | .step => rowStep
  | .wdgack => rowWdgack
  | .rdstat _ => rowRdstat

/-- The row's test (R84). -/
def OpRow.admits (r : OpRow) (w : CmdWord) : Bool := w &&& r.mask == r.pattern

/-! ### Fields (R81, R83) and the value encodings of operands (R86, R87) -/

def opField (w : CmdWord) : BitVec 4 := w.extractLsb' 20 4
def chField (w : CmdWord) : BitVec 2 := w.extractLsb' 18 2
def rawField (w : CmdWord) : U16 := w.extractLsb' 0 16
def bpField (w : CmdWord) : Bool := w.getLsbD 1
def wpField (w : CmdWord) : Bool := w.getLsbD 0
def dirField (w : CmdWord) : Bool := w.getLsbD 0
def idxField (w : CmdWord) : BitVec 5 := w.extractLsb' 0 5

/-- Channel numbers (R86). -/
def channelOfBits (c : BitVec 2) : Channel :=
  match c.toNat with
  | 0 => .waterRef
  | 1 => .waterMeasure
  | 2 => .windThresholdPot
  | _ => .waterThresholdPot

def channelBits (ch : Channel) : BitVec 2 :=
  match ch with
  | .waterRef => 0
  | .waterMeasure => 1
  | .windThresholdPot => 2
  | .waterThresholdPot => 3

/-- `dir = 1` is `UP` (R87). -/
def directionOfBit (d : Bool) : Direction := if d then .up else .down

def directionBit (d : Direction) : Bool :=
  match d with
  | .down => false
  | .up => true

/-- The instruction when the row admits the word, the zero-bit rejection when not (R85, R96). -/
def underRow (r : OpRow) (w : CmdWord) (i : Instr) : Except IllegalWord Instr :=
  if r.admits w then .ok i else .error .zeroBitSet

/-- The decoding procedure of R96. -/
def decode (w : CmdWord) : Except IllegalWord Instr :=
  match (opField w).toNat with
  | 0 => underRow rowNop w .nop
  | 1 => underRow rowSample w (.sample (channelOfBits (chField w)) (rawField w))
  | 2 => underRow rowRdfilt w (.rdfilt (channelOfBits (chField w)))
  | 3 => underRow rowTick1s w (.tick1s (wpField w) (bpField w))
  | 4 => underRow rowMove w (.move (directionOfBit (dirField w)))
  | 5 => underRow rowStep w .step
  | 6 => underRow rowWdgack w .wdgack
  | 7 => underRow rowRdstat w (.rdstat (idxField w))
  | _ => .error .reservedOpcode

/-! ### The encoder: the formats of R82, field by field, high bits first -/

/-- The word of an instruction (R82, R84). -/
def encode (i : Instr) : CmdWord :=
  match i with
  | .nop => 0x0#4 ++ 0#20
  | .sample ch raw => 0x1#4 ++ channelBits ch ++ 0#2 ++ raw
  | .rdfilt ch => 0x2#4 ++ channelBits ch ++ 0#18
  | .tick1s wp bp => 0x3#4 ++ 0#18 ++ BitVec.ofBool bp ++ BitVec.ofBool wp
  | .move dir => 0x4#4 ++ 0#19 ++ BitVec.ofBool (directionBit dir)
  | .step => 0x5#4 ++ 0#20
  | .wdgack => 0x6#4 ++ 0#20
  | .rdstat idx => 0x7#4 ++ 0#15 ++ idx

/-- The instruction the decoder reads from the table's numbering of an instruction's bits. There is one
word of 24 bits and no byte order (R64, R80): a row's bits are the word as it is. -/
def decodeTableWord (nbits w : Nat) : Option Instr :=
  if nbits ≤ 24 then (decode (BitVec.ofNat 24 (w % 2 ^ nbits))).toOption else none

end Sys2Proof
end

