-- ==== Sys2Proof/Config.lean ====
section
/-! DEFINITION. The design-time parameters of the block (00_scope.md R5, R6), and the record the
machine's own reset state carries. The spec gives few of the values: those it does not give are
opaque here, so nothing can be proved of them beyond their legal range. -/

namespace Sys2Proof

/-- What an interrupted motion's fall-back to Manual does to `threshold`: the OPEN parameter
`FALLBACK_THR_POLICY` (R5, R162; 92_eei_decisions.md D27). -/
inductive FallbackPolicy where
  | keep
  | snapToSetpoint
  deriving DecidableEq, Repr, Inhabited

/-- The parameter record of R5. `NCH` (4) and `RAW_BITS` (16) are fixed by the spec and stand in the
types. A range that is a whole word is in the field's type; the rest is `Params.legal`. -/
structure Params where
  /-- `A_SLOW_Q15`, 0..32768: coefficient of the water channels (R112). -/
  aSlowQ15 : U16
  /-- `A_FAST_Q15`, 0..32768: coefficient of the pot channels (R112). -/
  aFastQ15 : U16
  /-- `GUST_N`, 1..17: the N-th event in the window is the alarm. -/
  gustN : Nat
  /-- `GUST_WINDOW`, 1..65535. -/
  gustWindow : U16
  /-- `WATER_ALM_TIME`, 1..7. -/
  waterAlmTime : BitVec 3
  /-- `FOUR_HOURS`, 0..65535. -/
  fourHours : U16
  /-- `POT_DELTA`, an integer, taken as not negative (R8; DEDUCED, log 8). -/
  potDelta : Nat
  /-- `THR_BIAS`. -/
  thrBias : Nat
  /-- `THR_STEP`. -/
  thrStep : Nat
  /-- `THR_MARGIN`. -/
  thrMargin : Nat
  /-- `T_RELAY_SETTLE`, 1..65535. -/
  tRelaySettle : U16
  /-- `T_TRAVEL_UP`, 1..65535. -/
  tTravelUp : U16
  /-- `T_TRAVEL_DOWN`, 1..65535. -/
  tTravelDown : U16
  /-- `T_POST_SETTLE`, 1..65535. -/
  tPostSettle : U16
  /-- `WDG_ACK_RELOAD`, 1..65535. -/
  wdgAckReload : U16
  /-- `DIR_UP_LEVEL`: the level of `rly_dir` that selects raise. -/
  dirUpLevel : Bool
  /-- `FALLBACK_THR_POLICY`. -/
  fallbackThrPolicy : FallbackPolicy
  /-- `F_TB`, positive: `STEP`s per second; informative, read by the pseudo-operation `SECOND` only. -/
  fTb : Nat
  deriving DecidableEq, Repr

/-- `K = GUST_N − 1`, the number of gust timers (R7). -/
abbrev Params.k (p : Params) : Nat := p.gustN - 1

/-! ### The parameters the spec gives no value for: free, and legal by their type (log 2). -/

/-- Free value: `A_SLOW_Q15` (91_not_in_source.md N5). -/
opaque Config.aSlowQ15 : Fin 32769
/-- Free value: `A_FAST_Q15` (N5). -/
opaque Config.aFastQ15 : Fin 32769
/-- Free value: `GUST_N − 1` (N4). -/
opaque Config.gustK : Fin 17
/-- Free value: `GUST_WINDOW − 1` (N4). -/
opaque Config.gustWindowLessOne : Fin 65535
/-- Free value: `FOUR_HOURS`; the source's 14400 is an "e.g." (N4). -/
opaque Config.fourHours : Fin 65536
/-- Free value: `T_RELAY_SETTLE − 1` (N4). -/
opaque Config.tRelaySettleLessOne : Fin 65535
/-- Free value: `T_TRAVEL_UP − 1` (N4). -/
opaque Config.tTravelUpLessOne : Fin 65535
/-- Free value: `T_TRAVEL_DOWN − 1` (N4). -/
opaque Config.tTravelDownLessOne : Fin 65535
/-- Free value: `T_POST_SETTLE − 1` (N4). -/
opaque Config.tPostSettleLessOne : Fin 65535
/-- Free value: `WDG_ACK_RELOAD − 1` (N4, N20). -/
opaque Config.wdgAckReloadLessOne : Fin 65535
/-- Free value: `DIR_UP_LEVEL` (N10). -/
opaque Config.dirUpLevel : Bool
/-- Free value: `FALLBACK_THR_POLICY`, which the spec leaves OPEN (D27, N17). -/
opaque Config.fallbackThrPolicy : FallbackPolicy
/-- Free value: `F_TB − 1` (N4). -/
opaque Config.fTbLessOne : Nat

/-- The parameter record of the machine's own reset state: the values R5 gives (`WATER_ALM_TIME`,
`POT_DELTA`, `THR_BIAS`, `THR_STEP`, `THR_MARGIN`) and a free legal value for every other (log 2). -/
def Config.params : Params where
  aSlowQ15 := BitVec.ofNat 16 Config.aSlowQ15.val
  aFastQ15 := BitVec.ofNat 16 Config.aFastQ15.val
  gustN := Config.gustK.val + 1
  gustWindow := BitVec.ofNat 16 (Config.gustWindowLessOne.val + 1)
  waterAlmTime := 4
  fourHours := BitVec.ofNat 16 Config.fourHours.val
  potDelta := 1000
  thrBias := 1000
  thrStep := 1000
  thrMargin := 5000
  tRelaySettle := BitVec.ofNat 16 (Config.tRelaySettleLessOne.val + 1)
  tTravelUp := BitVec.ofNat 16 (Config.tTravelUpLessOne.val + 1)
  tTravelDown := BitVec.ofNat 16 (Config.tTravelDownLessOne.val + 1)
  tPostSettle := BitVec.ofNat 16 (Config.tPostSettleLessOne.val + 1)
  wdgAckReload := BitVec.ofNat 16 (Config.wdgAckReloadLessOne.val + 1)
  dirUpLevel := Config.dirUpLevel
  fallbackThrPolicy := Config.fallbackThrPolicy
  fTb := Config.fTbLessOne + 1

/-- `TESTCFG`, the small values of R5's last column. They are the spec's own, for its vectors only
(R6); nothing but tests uses them. -/
def Config.testCfg : Params where
  aSlowQ15 := 32752
  aFastQ15 := 32608
  gustN := 3
  gustWindow := 5
  waterAlmTime := 4
  fourHours := 14400
  potDelta := 1000
  thrBias := 1000
  thrStep := 1000
  thrMargin := 5000
  tRelaySettle := 2
  tTravelUp := 6
  tTravelDown := 4
  tPostSettle := 2
  wdgAckReload := 12
  dirUpLevel := true
  fallbackThrPolicy := .keep
  fTb := 10

end Sys2Proof
end

