-- ==== Sys2Proof/WellFormed.lean ====
section
/-! DEFINITION. What is checked before anything runs: the parameter record (00_scope.md R5;
93_implementation_defined.md U8) and the numeric operands of assembler text (30_encoding.md R83, R97).

A term of `Instr` itself needs no check: its operand types hold exactly what the fields of the word
hold, and every value of `ch`, `raw`, `bp`, `wp`, `dir` and `idx` is a legal field (R61, R62, R96: a
reserved status index is decided at execution, not in the word). -/

namespace Sys2Proof

/-- The ranges of R5 that the field types do not already hold. -/
def Params.legal (p : Params) : Bool :=
  decide (p.aSlowQ15.toNat ≤ 32768) && decide (p.aFastQ15.toNat ≤ 32768)
    && decide (1 ≤ p.gustN) && decide (p.gustN ≤ 17)
    && decide (1 ≤ p.gustWindow.toNat) && decide (1 ≤ p.waterAlmTime.toNat)
    && decide (1 ≤ p.tRelaySettle.toNat) && decide (1 ≤ p.tTravelUp.toNat)
    && decide (1 ≤ p.tTravelDown.toNat) && decide (1 ≤ p.tPostSettle.toNat)
    && decide (1 ≤ p.wdgAckReload.toNat) && decide (1 ≤ p.fTb)

/-- A parameter record that passed the check. The machine takes no other: outside the legal ranges the
rules are not defined, and U8 has such a record refused at configuration (log 8). -/
abbrev LegalParams := { p : Params // p.legal = true }

/-- Whatever the free parameters are, the reset state's record is legal. -/
theorem Config.params_legal : Config.params.legal = true := by
  have slow := Config.aSlowQ15.isLt
  have fast := Config.aFastQ15.isLt
  have k := Config.gustK.isLt
  have w := Config.gustWindowLessOne.isLt
  have r := Config.tRelaySettleLessOne.isLt
  have u := Config.tTravelUpLessOne.isLt
  have d := Config.tTravelDownLessOne.isLt
  have q := Config.tPostSettleLessOne.isLt
  have g := Config.wdgAckReloadLessOne.isLt
  simp only [Params.legal, Config.params, Bool.and_eq_true, decide_eq_true_eq, BitVec.toNat_ofNat]
  refine ⟨⟨⟨⟨⟨⟨⟨⟨⟨⟨⟨?_, ?_⟩, ?_⟩, ?_⟩, ?_⟩, by decide⟩, ?_⟩, ?_⟩, ?_⟩, ?_⟩, ?_⟩, ?_⟩ <;>
    first | omega | exact decide_eq_true (by omega)

/-- The reset state's record, with its check. -/
def Config.legalParams : LegalParams := ⟨Config.params, Config.params_legal⟩

/-- A channel operand written as a number is 0..3 (R86, R95). -/
def channelOperandOk (n : Nat) : Bool := decide (n < 4)

/-- A raw sample written as a number is 0..65535 (R95). -/
def rawOperandOk (n : Nat) : Bool := decide (n < 65536)

/-- A bit operand written as a number is 0 or 1 (R95). -/
def bitOperandOk (n : Nat) : Bool := decide (n < 2)

/-- A status index written as a number is 0..31 (R95). -/
def indexOperandOk (n : Nat) : Bool := decide (n < 32)

end Sys2Proof
end

