-- ==== Sys2Proof/Machine/State.lean ====
section
/-! DEFINITION. The state of TDN2-ACC as plain data (10_state.md R20), its value at reset
(70_reset_and_hazards.md R245), and the reasons a step can stop. -/

namespace Sys2Proof.Machine

/-- The sequencer phase `seq` (R38): codes 0 to 4; codes 5 to 7 are never stored, so they are not
representable (U6). -/
inductive Phase where
  /-- 0: no actuation in progress. -/
  | idle
  /-- 1: relays energised, waiting the settling delay. -/
  | settle1
  /-- 2: power on, waiting the travel time. -/
  | travel
  /-- 3: power off, waiting the further settle delay. -/
  | settle2
  /-- 4: blocked until the button is released. -/
  | waitRel
  deriving DecidableEq, Repr

/-- The pending continuation `seq_cont` (R42). -/
inductive Cont where
  /-- 0: the actuation was started by a `MOVE`. -/
  | none
  /-- 1: started by `TICK1S`, Down and an alarm. -/
  | raise
  /-- 2: started by `TICK1S`, the auto-down timer ran out. -/
  | lower
  deriving DecidableEq, Repr

/-- An `ActuationResult` (R88). -/
inductive ActResult where
  /-- 0: none yet, or pending. -/
  | none
  /-- 1. -/
  | completed
  /-- 2. -/
  | interrupted
  deriving DecidableEq, Repr

/-- A response's status (R89). -/
inductive Status where
  /-- 0: executed. -/
  | ok
  /-- 1: refused, an actuation sequence is in progress (R223). -/
  | busy
  /-- 2: refused (R222). -/
  | illegal
  deriving DecidableEq, Repr

/-- The answer to one operation (R12, R90). -/
structure Response where
  status : Status
  data : U16
  deriving DecidableEq, Repr

/-- The gust timer bank (R24, R26): a fixed container of 16 slots, the most a legal `GUST_N` gives
(R7). The bank of R24 is slots `0 .. K−1`; the rest do not exist for any operation (log 6). -/
abbrev Bank := Vector U16 16

/-- The architectural state: exactly the elements of R20's table, in its order. -/
structure Block where
  /-- `filt[0..3]` (R21). -/
  filt : Vector U16 4
  /-- `prev[0..1]` (R22). -/
  prev : Vector U16 2
  /-- `gt[0..K−1]` (R24). -/
  gt : Bank
  /-- `gnext`, 0..15 (R25). -/
  gnext : Fin 16
  /-- `threshold` (R27). -/
  threshold : U16
  /-- `setpoint` (R28). -/
  setpoint : U16
  /-- `sp_d1` (R29). -/
  spD1 : U16
  /-- `sp_d2` (R29). -/
  spD2 : U16
  /-- `minimum_seen` (R30). -/
  minimumSeen : U16
  /-- `is_down` (R31). -/
  isDown : Bool
  /-- `is_auto` (R32). -/
  isAuto : Bool
  /-- `auto_down_timer` (R33). -/
  autoDownTimer : U16
  /-- `water_alarm_count` (R34). -/
  waterAlarmCount : BitVec 3
  /-- `alarm_flags` (R35): bit 0 `water_alarm`, 1 `wind_alarm`, 2 `water_pre`, 3 `wind_pre`. -/
  alarmFlags : BitVec 4
  /-- `seq` (R38). -/
  seq : Phase
  /-- `seq_cnt` (R39). -/
  seqCnt : U16
  /-- `seq_dir` (R40). -/
  seqDir : Direction
  /-- `seq_pressed` (R41). -/
  seqPressed : Bool
  /-- `seq_cont` (R42). -/
  seqCont : Cont
  /-- `last_result` (R43). -/
  lastResult : ActResult
  /-- `rly_auto`, output pin (R44). -/
  rlyAuto : Bool
  /-- `rly_dir`, output pin (R45). -/
  rlyDir : Bool
  /-- `drv_pwr`, output pin (R46). -/
  drvPwr : Bool
  /-- `wdg_ack` (R47). -/
  wdgAck : U16
  deriving DecidableEq, Repr

/-- The reset value of every element (R245). -/
def Block.reset (p : Params) : Block where
  filt := Vector.replicate 4 0#16
  prev := Vector.replicate 2 0#16
  gt := Vector.replicate 16 0#16
  gnext := 0
  threshold := 0#16
  setpoint := 0#16
  spD1 := 0#16
  spD2 := 0#16
  minimumSeen := 65535#16
  isDown := true
  isAuto := true
  autoDownTimer := 0#16
  waterAlarmCount := 0#3
  alarmFlags := 0#4
  seq := .idle
  seqCnt := 0#16
  seqDir := .down
  seqPressed := false
  seqCont := .none
  lastResult := .none
  rlyAuto := false
  rlyDir := false
  drvPwr := false
  wdgAck := p.wdgAckReload

/-- Free value: what `seq_cnt − 1` stores when a timed phase is entered with `seq_cnt = 0`. No run
reaches such a state (R39, R218) and no rule gives the value; a deterministic block (R3) may make it
depend on its parameters and its state, of which `STEP` touches all but the Filter Bank (R70; log 7). -/
opaque Config.seqCntBelowZero : Params → Block → U16

/-- One presentation at the command port: the word and the level of the pin `btn` while its operation
executes (R48, R80). -/
structure Input where
  cmd : CmdWord
  btn : Bool
  deriving DecidableEq, Repr

/-- The command port. None of it is architectural state (R20): it is the environment's side of the
machine, held as data so that one step is a function of the state (log 3). -/
structure Port where
  /-- The word presented now (R80). -/
  cmd : CmdWord
  /-- The level of the input pin `btn` now (R48). -/
  btn : Bool
  /-- What the environment presents after it, first to last (R68, R69). -/
  pending : List Input
  /-- The response to the last operation (R12, R90); `none` before the first one (log 5). -/
  resp : Option Response
  deriving DecidableEq, Repr

/-- The machine: its parameter record, which no operation writes (R5, log 1), the block, and the port. -/
structure State where
  cfg : LegalParams
  blk : Block
  port : Port
  deriving DecidableEq, Repr

/-- Reasons a step stops with a fault. There is none: every operation answers with a status (R220,
R221, R224) and the block has no trap (R227). -/
inductive Fault where
  deriving DecidableEq, Repr

/-- Reasons an instruction has no meaning. -/
inductive Refusal where
  /-- Raised by an arm of `exec` whose instruction has no meaning yet; no arm raises it. Safe: the
  model stops where the hardware goes on. -/
  | notModelled (mnemonic : String)
  deriving DecidableEq, Repr

/-- The word on a port to which nothing is presented: `NOP`, "the idle value of the command port"
(R210). -/
def Port.idleWord : CmdWord := 0x000000#24

/-- The machine right after reset, for a given parameter record: the block as R245 says, the port idle
and `btn` low (log 3, log 4). -/
def State.resetWith (p : LegalParams) : State where
  cfg := p
  blk := Block.reset p.val
  port := { cmd := Port.idleWord, btn := false, pending := [], resp := none }

/-- The machine right after reset (R245), with the free legal parameter record (log 2). -/
def State.reset : State := State.resetWith Config.legalParams

end Sys2Proof.Machine
end

