-- ==== Sys2Proof/Machine/Ops.lean ====
section
/-! DEFINITION. The operations that every meaning shares: unsigned arithmetic (00_scope.md R9),
responding (R12), refusing (60_exceptions.md R221, the block's only synchronous exception), the reset
procedure (70_reset_and_hazards.md R245, the block's only asynchronous-looking event), the watchdog
refresh (R225), the alarm memory (43_actuator.md R171), and the port. -/

namespace Sys2Proof.Machine

/-- `absdiff(a, b) = max(a, b) − min(a, b)` (R9). -/
def absdiff (a b : U16) : U16 := if b.toNat ≤ a.toNat then a - b else b - a

/-- `satsub(a, b) = max(a − b, 0)` (R9), on naturals. -/
def satsub (a b : Nat) : Nat := a - b

/-- End an operation with block `b` and the response `(status, data)` (R12). -/
def State.answered (s : State) (b : Block) (status : Status) (data : U16) : State :=
  { s with blk := b, port := { s.port with resp := some ⟨status, data⟩ } }

/-- Refuse an operation: no state element changes and the response is `(status, 0)` (R221). -/
def State.refuse (s : State) (status : Status) : State := s.answered s.blk status 0#16

/-- `ResetState()` (R245): every element takes its reset value; nothing survives (R246). -/
def resetState (p : Params) : Block := Block.reset p

/-- `wdg_ack <- WDG_ACK_RELOAD` (R225). -/
def refreshWatchdog (p : Params) (b : Block) : Block := { b with wdgAck := p.wdgAckReload }

/-- `ClearAlarmMemory()` (R171). -/
def clearAlarmMemory (b : Block) : Block :=
  { b with waterAlarmCount := 0#3, gt := Vector.replicate 16 0#16, gnext := 0 }

/-- The block without what the Filter Bank owns (R23): what is left when `filt` and `prev` are put at one
fixed value. -/
def withoutFilterBank (b : Block) : Block :=
  { b with filt := Vector.replicate 4 0#16, prev := Vector.replicate 2 0#16 }

/-- `seq_cnt − 1` of a timed phase (R184, R218). The free value at `seq_cnt = 0` does not see the Filter
Bank: the state that `STEP` and `SAMPLE` touch is disjoint (R70; log 7). -/
def countedDown (p : Params) (b : Block) : U16 :=
  if b.seqCnt = 0#16 then Config.seqCntBelowZero p (withoutFilterBank b) else b.seqCnt - 1#16

/-- The port after an operation: the environment's next presentation, or, when it presents nothing, the
idle word with the pin `btn` at the level it had (R68, R210, log 3, log 4). -/
def Port.advance (q : Port) : Port :=
  match q.pending with
  | [] => { q with cmd := Port.idleWord }
  | i :: rest => { q with cmd := i.cmd, btn := i.btn, pending := rest }

/-- The machine after an operation, with the next presentation on its port. -/
def State.advance (s : State) : State := { s with port := s.port.advance }

/-- The environment presents `i` now (R80). -/
def State.present (s : State) (i : Input) : State :=
  { s with port := { s.port with cmd := i.cmd, btn := i.btn } }

end Sys2Proof.Machine
end

