-- ==== Sys2Proof/Machine/Operands.lean ====
section
/-! DEFINITION. How an operand selects a register, and the numeric codes of the enumerated elements:
channels (30_encoding.md R86; 20_memory.md R61), phases, continuations, results and statuses
(10_state.md R38, R42; 30_encoding.md R87 to R89). -/

namespace Sys2Proof.Machine

/-- The index of a channel's `filt` register (R61, R86). -/
def channelIndex (ch : Channel) : Fin 4 :=
  match ch with
  | .waterRef => 0
  | .waterMeasure => 1
  | .windThresholdPot => 2
  | .waterThresholdPot => 3

/-- The index of a water channel's `prev` register; the pot channels have none (R22). -/
def waterIndex (ch : Channel) : Option (Fin 2) :=
  match ch with
  | .waterRef => some 0
  | .waterMeasure => some 1
  | .windThresholdPot => none
  | .waterThresholdPot => none

/-- `filt[ch]` (R21). -/
def readFilt (b : Block) (ch : Channel) : U16 := b.filt[channelIndex ch]

/-- `filt[ch] <- v` (R21). -/
def writeFilt (b : Block) (ch : Channel) (v : U16) : Block :=
  { b with filt := b.filt.set (channelIndex ch) v }

/-- `prev[i]` (R22). -/
def readPrev (b : Block) (i : Fin 2) : U16 := b.prev[i]

/-- `prev[i] <- v` (R22). -/
def writePrev (b : Block) (i : Fin 2) (v : U16) : Block := { b with prev := b.prev.set i v }

/-- `seq` codes (R38). -/
def phaseCode (q : Phase) : BitVec 3 :=
  match q with
  | .idle => 0
  | .settle1 => 1
  | .travel => 2
  | .settle2 => 3
  | .waitRel => 4

/-- `seq_cont` codes (R42). -/
def contCode (c : Cont) : BitVec 2 :=
  match c with
  | .none => 0
  | .raise => 1
  | .lower => 2

/-- `ActuationResult` codes (R88). -/
def resultCode (r : ActResult) : BitVec 2 :=
  match r with
  | .none => 0
  | .completed => 1
  | .interrupted => 2

/-- Status codes (R89). -/
def statusCode (st : Status) : BitVec 2 :=
  match st with
  | .ok => 0
  | .busy => 1
  | .illegal => 2

/-- The level `rly_dir` holds for a direction: `DIR_UP_LEVEL` for `UP`, its complement for `DOWN` (R45). -/
def directionLevel (p : Params) (dir : Direction) : Bool :=
  match dir with
  | .up => p.dirUpLevel
  | .down => !p.dirUpLevel

/-- The travel time of a direction (R189). -/
def travelTime (p : Params) (dir : Direction) : U16 :=
  match dir with
  | .up => p.tTravelUp
  | .down => p.tTravelDown

end Sys2Proof.Machine
end

