-- ==== Sys2Proof/Machine/Flags.lean ====
section
/-! DEFINITION. Every packing of bits into a word: the alarm flags (10_state.md R35), the words of the
status view (R51 to R53), and the response data of `TICK1S`, `MOVE` and `STEP` (30_encoding.md R90).
Each is written as its fields from the highest bit down; an unused bit is 0 (U7). -/

namespace Sys2Proof.Machine

/-- `alarm_flags` (R35): bit 3 `wind_pre`, 2 `water_pre`, 1 `wind_alarm`, 0 `water_alarm`. -/
def packAlarmFlags (windPre waterPre windAlarm waterAlarm : Bool) : BitVec 4 :=
  BitVec.ofBool windPre ++ BitVec.ofBool waterPre ++ BitVec.ofBool windAlarm
    ++ BitVec.ofBool waterAlarm

/-- `busy = (seq ≠ IDLE)` (R49). -/
def busy (b : Block) : Bool := decide (b.seq ≠ .idle)

/-- `n_active`: the number of slots `i < K` with `gt[i] ≠ 0` (R49, R131). -/
def activeTimers (k : Nat) (g : Bank) : Nat :=
  (List.finRange 16).countP fun i => decide (i.val < k) && decide (g[i] ≠ 0#16)

/-- The `STATUS` word, index 0 (R51). -/
def statusWord (b : Block) : U16 :=
  0#1 ++ BitVec.ofBool b.drvPwr ++ BitVec.ofBool b.rlyDir ++ BitVec.ofBool b.rlyAuto
    ++ resultCode b.lastResult ++ contCode b.seqCont ++ BitVec.ofBool b.seqPressed
    ++ BitVec.ofBool (directionBit b.seqDir) ++ phaseCode b.seq ++ BitVec.ofBool (busy b)
    ++ BitVec.ofBool b.isAuto ++ BitVec.ofBool b.isDown

/-- The `ALARM` word, index 1 (R52). -/
def alarmWord (b : Block) : U16 := 0#9 ++ b.waterAlarmCount ++ b.alarmFlags

/-- The `GUSTSTAT` word, index 10 (R53). -/
def gustStatWord (k : Nat) (b : Block) : U16 :=
  0#4 ++ BitVec.ofNat 4 b.gnext.val ++ 0#3 ++ BitVec.ofNat 5 (activeTimers k b.gt)

/-- The actuation a `TICK1S` invoked, its response field `act` (R90). -/
inductive Act where
  /-- 0: none. -/
  | none
  /-- 1: raise. -/
  | raise
  /-- 2: lower. -/
  | lower
  deriving DecidableEq, Repr

def actCode (a : Act) : BitVec 2 :=
  match a with
  | .none => 0
  | .raise => 1
  | .lower => 2

/-- `TICK1S` response data (R90): bit 6 `refused`, bits 5:4 `act`, bits 3:0 the flags. -/
def tickData (refused : Bool) (act : Act) (flags : BitVec 4) : U16 :=
  0#9 ++ BitVec.ofBool refused ++ actCode act ++ flags

/-- `MOVE` response data (R90, R181): `INTERRUPTED` when refused at once, else `NONE`. -/
def moveData (refused : Bool) : U16 :=
  0#14 ++ resultCode (if refused then .interrupted else .none)

/-- `STEP` response data (R90): bit 3 `wdt_reset`, bit 2 `seq_done`, bits 1:0 the result. -/
def stepData (wdtReset seqDone : Bool) (res : ActResult) : U16 :=
  0#12 ++ BitVec.ofBool wdtReset ++ BitVec.ofBool seqDone ++ resultCode res

end Sys2Proof.Machine
end

