-- ==== Sys2Proof/Machine/Filter.lean ====
section
/-! DEFINITION. The Filter Bank (40_filter_bank.md): `IIR`, `SAMPLE`, `RDFILT`. -/

namespace Sys2Proof.Machine

/-- The accumulator of the filter step, a mathematical integer: it never wraps (R111, R114). -/
def iirAccumulator (y x a : Nat) : Nat := y * a + x * (32768 - a)

/-- `IIR(y, x, a)` (R111): the accumulator `>> 15`, truncated back to 16 bits. -/
def iir (y x a : U16) : U16 := BitVec.ofNat 16 (iirAccumulator y.toNat x.toNat a.toNat >>> 15)

/-- The effect of `SAMPLE ch, raw` on the block (R113, R112): a water channel filters the difference of
successive raw samples slowly, a pot channel the raw sample fast. -/
def sampleBlock (p : Params) (ch : Channel) (raw : U16) (b : Block) : Block :=
  match waterIndex ch with
  | some i =>
    writeFilt (writePrev b i raw) ch (iir (readFilt b ch) (absdiff raw (readPrev b i)) p.aSlowQ15)
  | none => writeFilt b ch (iir (readFilt b ch) raw p.aFastQ15)

/-- `SAMPLE ch, raw` (R113): responds with the new filtered value. -/
def execSample (ch : Channel) (raw : U16) (s : State) : Host.Outcome State Fault Refusal :=
  let b := sampleBlock s.cfg.val ch raw s.blk
  .next (s.answered b .ok (readFilt b ch))

/-- `RDFILT ch` (R116). -/
def execRdfilt (ch : Channel) (s : State) : Host.Outcome State Fault Refusal :=
  .next (s.answered s.blk .ok (readFilt s.blk ch))

end Sys2Proof.Machine
end

