-- ==== Sys2Proof/Machine/Gust.lean ====
section
/-! DEFINITION. The Wind Gust Detector (41_gust_detector.md): the procedure `GUST`. -/

namespace Sys2Proof.Machine

/-- Step 1 of `GUST` (R131): every active timer counts down by one. -/
def ageTimers (k : Nat) (g : Bank) : Bank :=
  Vector.ofFn fun i => if i.val < k ∧ g[i] ≠ 0#16 then g[i] - 1#16 else g[i]

/-- The slot `(gnext + j) mod K` (R131). -/
def ringSlot (k : Nat) (gnext : Fin 16) (j : Nat) : Fin 16 := Fin.ofNat 16 ((gnext.val + j) % k)

/-- The slot a stored event takes: the first free one of the ring from `gnext` (R131, R134). -/
def freeSlot (k : Nat) (g : Bank) (gnext : Fin 16) : Option (Fin 16) :=
  ((List.range k).map (ringSlot k gnext)).find? fun i => decide (g[i] = 0#16)

/-- Store an event in slot `i` (R131): load it with the window, move the ring pointer past it. -/
def storeEvent (p : Params) (i : Fin 16) (b : Block) : Block :=
  { b with gt := b.gt.set i p.gustWindow, gnext := Fin.ofNat 16 ((i.val + 1) % p.k) }

/-- Step 3 of `GUST` when the pre-alarm does not alarm (R131): the event is stored. The search always
finds a slot when `n < K`. -/
def allocateEvent (p : Params) (b : Block) : Block :=
  match freeSlot p.k b.gt b.gnext with
  | some i => storeEvent p i b
  | none => b

/-- `GUST(wind_pre)` (R131, R132): age, count, act. Returns the block and `wind_alarm`. -/
def gust (p : Params) (windPre : Bool) (b : Block) : Block × Bool :=
  let aged := { b with gt := ageTimers p.k b.gt }
  if windPre then
    if p.k ≤ activeTimers p.k aged.gt then (aged, true) else (allocateEvent p aged, false)
  else (aged, false)

end Sys2Proof.Machine
end

