-- ==== Sys2Proof/Machine/Water.lean ====
section
/-! DEFINITION. The Water Threshold Adapter (42_water_adapter.md): `WD` and the procedure `WATER`. -/

namespace Sys2Proof.Machine

/-- `WD(ref, meas)` (R146): a 32-bit quantity, kept as a mathematical integer (R157). The test
`ref = 0` comes first. -/
def waterRatio (ref meas : U16) : Nat :=
  if ref = 0#16 then 65535 else meas.toNat * 65536 / ref.toNat

/-- Clause (a) of `WATER` (R147, R149): a setpoint moved by more than `POT_DELTA` over two evaluations
snaps the threshold to it. -/
def snapOnRotation (p : Params) (sp spD2 thr : U16) : U16 :=
  if p.potDelta < (absdiff sp spD2).toNat then sp else thr

/-- Down, just commanded down manually (R151). -/
def biasedThreshold (p : Params) (wd : Nat) (sp : U16) : U16 :=
  BitVec.ofNat 16 (min (satsub wd p.thrBias) sp.toNat)

/-- Down, not just commanded (R152): relax by a step, hold, or resync. -/
def relaxedThreshold (p : Params) (wd : Nat) (sp thr : U16) : U16 :=
  if thr.toNat < sp.toNat then
    if sp.toNat + p.thrMargin ≤ wd then BitVec.ofNat 16 (min (thr.toNat + p.thrStep) sp.toNat)
    else thr
  else sp

/-- The running minimum of the ratio (R154): at most the old one, so 16 bits. -/
def loweredMinimum (minimumSeen : U16) (wd : Nat) : U16 :=
  BitVec.ofNat 16 (min minimumSeen.toNat wd)

/-- The midpoint of setpoint and minimum, each halved first (R154). -/
def midpoint (sp minimumSeen : U16) : U16 := (sp >>> 1) + (minimumSeen >>> 1)

/-- Clause (b) of `WATER` (R147, R150): the policy by state, on the threshold clause (a) left. -/
def waterPolicy (p : Params) (justManual : Bool) (wd : Nat) (sp thr : U16) (b : Block) : Block :=
  if b.isDown then
    if justManual then { b with threshold := biasedThreshold p wd sp }
    else { b with threshold := relaxedThreshold p wd sp thr, minimumSeen := 65535#16 }
  else if b.isAuto then
    { b with threshold := midpoint sp (loweredMinimum b.minimumSeen wd)
             minimumSeen := loweredMinimum b.minimumSeen wd }
  else { b with threshold := sp }

/-- `WATER(just_manual)` (R147): returns the block and `water_pre`, which compares the ratio with the
threshold as it stood at entry (R148). -/
def water (p : Params) (justManual : Bool) (b : Block) : Block × Bool :=
  let wd := waterRatio (readFilt b .waterRef) (readFilt b .waterMeasure)
  let sp := readFilt b .waterThresholdPot
  let thr := snapOnRotation p sp b.spD2 b.threshold
  let shifted := { b with setpoint := sp, spD2 := b.spD1, spD1 := sp }
  (waterPolicy p justManual wd sp thr shifted, decide (wd < b.threshold.toNat))

end Sys2Proof.Machine
end

