-- ==== Sys2Proof/Machine/Actuator.lean ====
section
/-! DEFINITION. The Awning Actuator State Machine and the actuation sequencer (43_actuator.md): the
procedures `ApplyCont`, `Finish`, `StartMove` and the operations `TICK1S`, `MOVE`, `STEP`. -/

namespace Sys2Proof.Machine

/-! ### The result of an actuation -/

/-- The threshold at a fall-back to Manual: the open parameter (R162, R187). -/
def fallbackThreshold (p : Params) (b : Block) : U16 :=
  match p.fallbackThrPolicy with
  | .keep => b.threshold
  | .snapToSetpoint => b.setpoint

/-- An interrupted actuation, either continuation (R187): Manual, recorded Down, alarm memory cleared. -/
def fallBackToManual (p : Params) (b : Block) : Block :=
  clearAlarmMemory { b with isAuto := false, isDown := true, threshold := fallbackThreshold p b }

/-- `ApplyCont(cont, res)` (R187); `res` is `COMPLETED` or `INTERRUPTED` at every call. -/
def applyCont (p : Params) (cont : Cont) (res : ActResult) (b : Block) : Block :=
  match cont, res with
  | .none, _ => b
  | .raise, .completed => clearAlarmMemory { b with isDown := false, autoDownTimer := p.fourHours }
  | .lower, .completed => clearAlarmMemory { b with isDown := true }
  | .raise, _ => fallBackToManual p b
  | .lower, _ => fallBackToManual p b

/-- `Finish(res)` before its continuation (R186): pins released, sequencer at its reset values. -/
def endSequence (res : ActResult) (b : Block) : Block :=
  { b with rlyAuto := false, rlyDir := false, drvPwr := false, lastResult := res, seq := .idle,
           seqCnt := 0#16, seqDir := .down, seqPressed := false, seqCont := .none }

/-- `Finish(res)` (R186). -/
def finish (p : Params) (res : ActResult) (b : Block) : Block :=
  applyCont p b.seqCont res (endSequence res b)

/-! ### Starting an actuation -/

/-- An accepted start (R180). -/
def beginSequence (p : Params) (dir : Direction) (cont : Cont) (b : Block) : Block :=
  { b with rlyAuto := true, rlyDir := directionLevel p dir, seq := .settle1,
           seqCnt := p.tRelaySettle, seqDir := dir, seqPressed := false, seqCont := cont,
           lastResult := .none }

/-- A start refused because the button is pressed (R180, R182). -/
def refuseStart (p : Params) (cont : Cont) (b : Block) : Block :=
  applyCont p cont .interrupted { b with lastResult := .interrupted }

/-- `StartMove(dir, cont)` (R180): refused exactly when `btn = 1`. -/
def startMove (p : Params) (btn : Bool) (dir : Direction) (cont : Cont) (b : Block) : Block :=
  if btn then refuseStart p cont b else beginSequence p dir cont b

/-- `MOVE dir` (R181). -/
def execMove (dir : Direction) (s : State) : Host.Outcome State Fault Refusal :=
  .next
    (if s.blk.seq = .idle then
      s.answered (startMove s.cfg.val s.port.btn dir .none (refreshWatchdog s.cfg.val s.blk)) .ok
        (moveData s.port.btn)
    else s.refuse .busy)

/-! ### The one-second evaluation -/

/-- Part 1 of `TICK1S` (R173): the manual override. -/
def manualOverride (bp : Bool) (b : Block) : Block :=
  if bp then clearAlarmMemory { b with isAuto := false, isDown := true } else b

/-- The count of consecutive water pre-alarms (R174). -/
def countPreAlarm (p : Params) (waterPre : Bool) (n : BitVec 3) : BitVec 3 :=
  if waterPre then BitVec.ofNat 3 (min (n.toNat + 1) p.waterAlmTime.toNat) else 0#3

/-- What parts 1 to 4 of `TICK1S` leave: the block and the four flags (R35, R170). -/
structure Evaluation where
  blk : Block
  windPre : Bool
  waterPre : Bool
  windAlarm : Bool
  waterAlarm : Bool
  deriving DecidableEq, Repr

/-- `alarm = water_alarm or wind_alarm` (R170). -/
def alarmRaised (e : Evaluation) : Bool := e.waterAlarm || e.windAlarm

/-- The flags word the evaluation records (R35). -/
def evaluationFlags (e : Evaluation) : BitVec 4 :=
  packAlarmFlags e.windPre e.waterPre e.windAlarm e.waterAlarm

/-- Parts 1 to 4 of `TICK1S` (R170, R199): override, water, wind, flags. -/
def evaluate (p : Params) (wp bp : Bool) (b : Block) : Evaluation :=
  let w := water p bp (manualOverride bp (refreshWatchdog p b))
  let n := countPreAlarm p w.2 w.1.waterAlarmCount
  let g := gust p wp { w.1 with waterAlarmCount := n }
  let waterAlarm := decide (p.waterAlmTime.toNat ≤ n.toNat)
  { blk := { g.1 with alarmFlags := packAlarmFlags wp w.2 g.2 waterAlarm }
    windPre := wp, waterPre := w.2, windAlarm := g.2, waterAlarm := waterAlarm }

/-- One evaluation's decrement of `auto_down_timer`, saturating at 0 (R177). -/
def tickTimer (t : U16) : U16 := if t = 0#16 then 0#16 else t - 1#16

/-- Which transition part 5 takes (R175 to R178): first match only. -/
inductive Transition where
  /-- Down and an alarm (R175). -/
  | raise
  /-- Up and an alarm (R176). -/
  | defer
  /-- Up, Auto, no alarm, and the timer is at 0 after its decrement (R177). -/
  | lower
  /-- Up, Auto, no alarm, and the timer is not yet at 0 (R177). -/
  | count
  /-- Every other case (R178). -/
  | nothing
  deriving DecidableEq, Repr

/-- The choice of part 5 (R170, R179). -/
def chooseTransition (alarm : Bool) (b : Block) : Transition :=
  if b.isDown then (if alarm then .raise else .nothing)
  else if alarm then .defer
  else if b.isAuto then (if tickTimer b.autoDownTimer = 0#16 then .lower else .count)
  else .nothing

/-- The effect of part 5 (R170). -/
def applyTransition (p : Params) (btn : Bool) (t : Transition) (b : Block) : Block :=
  match t with
  | .raise => startMove p btn .up .raise b
  | .defer => { b with autoDownTimer := p.fourHours }
  | .lower => startMove p btn .down .lower { b with autoDownTimer := tickTimer b.autoDownTimer }
  | .count => { b with autoDownTimer := tickTimer b.autoDownTimer }
  | .nothing => b

/-- The actuation a transition invokes (R90, R170). -/
def transitionAct (t : Transition) : Act :=
  match t with
  | .raise => .raise
  | .lower => .lower
  | .defer => .none
  | .count => .none
  | .nothing => .none

/-- The transition an evaluation leads to (R170). -/
def evaluationTransition (e : Evaluation) : Transition := chooseTransition (alarmRaised e) e.blk

/-- `TICK1S wp, bp` (R170). `refused` is set when an actuation was invoked and `btn = 1` (R90). -/
def execTick1s (wp bp : Bool) (s : State) : Host.Outcome State Fault Refusal :=
  .next
    (if s.blk.seq = .idle then
      let e := evaluate s.cfg.val wp bp s.blk
      let t := evaluationTransition e
      s.answered (applyTransition s.cfg.val s.port.btn t e.blk) .ok
        (tickData (decide (transitionAct t ≠ .none) && s.port.btn) (transitionAct t)
          (evaluationFlags e))
    else s.refuse .busy)

/-! ### The sequence -/

/-- A `STEP` while idle (R185, R225, R226): the watchdog reset when `wdg_ack` is found 0, else its
decrement. -/
def idleStep (p : Params) (b : Block) : Block × U16 :=
  if b.wdgAck = 0#16 then (resetState p, stepData true false .none)
  else ({ b with wdgAck := b.wdgAck - 1#16 }, stepData false false .none)

/-- A `STEP` in `SETTLE1` (R185, R188). -/
def settle1Step (p : Params) (b : Block) : Block × U16 :=
  let n := countedDown p b
  (if n = 0#16 then { b with drvPwr := true, seq := .travel, seqCnt := travelTime p b.seqDir }
   else { b with seqCnt := n }, stepData false false .none)

/-- The end of the travel wait (R185): power off, on to `SETTLE2`. -/
def endTravel (p : Params) (b : Block) : Block :=
  { b with drvPwr := false, seq := .settle2, seqCnt := p.tPostSettle }

/-- A `STEP` in `TRAVEL` (R185, R189): the button is tested before the count. -/
def travelStep (p : Params) (btn : Bool) (b : Block) : Block × U16 :=
  (if btn then endTravel p { b with seqPressed := true }
   else if countedDown p b = 0#16 then endTravel p b
   else { b with seqCnt := countedDown p b }, stepData false false .none)

/-- A `STEP` in `SETTLE2` (R185, R190, R192). -/
def settle2Step (p : Params) (btn : Bool) (b : Block) : Block × U16 :=
  let n := countedDown p b
  if n = 0#16 then
    if b.seqPressed then
      if btn then ({ b with seqCnt := 0#16, seq := .waitRel }, stepData false false .none)
      else (finish p .interrupted b, stepData false true .interrupted)
    else (finish p .completed b, stepData false true .completed)
  else ({ b with seqCnt := n }, stepData false false .none)

/-- A `STEP` in `WAITREL` (R185, R192). -/
def waitRelStep (p : Params) (btn : Bool) (b : Block) : Block × U16 :=
  if btn then (b, stepData false false .none)
  else (finish p .interrupted b, stepData false true .interrupted)

/-- The effect and response data of `STEP` (R185): in a sequence, every step refreshes the watchdog
first (R193). -/
def stepBlock (p : Params) (btn : Bool) (b : Block) : Block × U16 :=
  match b.seq with
  | .idle => idleStep p b
  | .settle1 => settle1Step p (refreshWatchdog p b)
  | .travel => travelStep p btn (refreshWatchdog p b)
  | .settle2 => settle2Step p btn (refreshWatchdog p b)
  | .waitRel => waitRelStep p btn (refreshWatchdog p b)

/-- `STEP` (R185). -/
def execStep (s : State) : Host.Outcome State Fault Refusal :=
  let r := stepBlock s.cfg.val s.port.btn s.blk
  .next (s.answered r.1 .ok r.2)

end Sys2Proof.Machine
end

