-- ==== Sys2Proof/Machine/System.lean ====
section
/-! DEFINITION. The system operations (44_system.md): `NOP`, `WDGACK`, `RDSTAT`. -/

namespace Sys2Proof.Machine

/-- `NOP` (R210): nothing changes. -/
def execNop (s : State) : Host.Outcome State Fault Refusal := .next (s.answered s.blk .ok 0#16)

/-- `WDGACK` (R211). -/
def execWdgack (s : State) : Host.Outcome State Fault Refusal :=
  .next (s.answered (refreshWatchdog s.cfg.val s.blk) .ok 0#16)

/-- The status view (R50, R213): the value at an index, `none` at a reserved one. Indices 16 to 31 are
the gust timers; those at or above `16 + K` are reserved. -/
def statusRegister (p : Params) (b : Block) (idx : BitVec 5) : Option U16 :=
  match idx.toNat with
  | 0 => some (statusWord b)
  | 1 => some (alarmWord b)
  | 2 => some b.threshold
  | 3 => some b.setpoint
  | 4 => some b.spD1
  | 5 => some b.spD2
  | 6 => some b.minimumSeen
  | 7 => some b.autoDownTimer
  | 8 => some b.seqCnt
  | 9 => some b.wdgAck
  | 10 => some (gustStatWord p.k b)
  | 11 => some (readPrev b 0)
  | 12 => some (readPrev b 1)
  | 13 => none
  | 14 => none
  | 15 => none
  | n => if n - 16 < p.k then some (b.gt[Fin.ofNat 16 (n - 16)]) else none

/-- `RDSTAT idx` (R213): `ILLEGAL` at a reserved index (R222). -/
def execRdstat (idx : BitVec 5) (s : State) : Host.Outcome State Fault Refusal :=
  .next
    (match statusRegister s.cfg.val s.blk idx with
     | some v => s.answered s.blk .ok v
     | none => s.refuse .illegal)

end Sys2Proof.Machine
end

