-- ==== Sys2Proof/Machine/Dispatch.lean ====
section
/-! DEFINITION. One arm per operation of the opcode table (30_encoding.md R84). -/

namespace Sys2Proof.Machine

def exec (i : Instr) (s : State) : Host.Outcome State Fault Refusal :=
  match i with
  | .nop => Sys2Proof.Machine.execNop s
  | .sample ch raw => Sys2Proof.Machine.execSample ch raw s
  | .rdfilt ch => Sys2Proof.Machine.execRdfilt ch s
  | .tick1s wp bp => Sys2Proof.Machine.execTick1s wp bp s
  | .move dir => Sys2Proof.Machine.execMove dir s
  | .step => Sys2Proof.Machine.execStep s
  | .wdgack => Sys2Proof.Machine.execWdgack s
  | .rdstat idx => Sys2Proof.Machine.execRdstat idx s

end Sys2Proof.Machine
end

