-- ==== Sys2Proof/Machine/Step.lean ====
section
/-! DEFINITION. One step: the operation on the command port is decoded and executed as one atomic
transition (30_encoding.md R80, R96; 20_memory.md R66; 60_exceptions.md R231, R232). -/

namespace Sys2Proof.Machine

/-- One operation: decode the presented word, execute it, or refuse it `ILLEGAL` (R93, R222); then the
environment's next presentation stands on the port. -/
def step (s : State) : Host.Outcome State Fault Refusal :=
  match decode s.port.cmd with
  | .ok i =>
    match exec i s with
    | .next t => .next t.advance
    | .fault r => .fault r
    | .refused r => .refused r
  | .error _ => .next (s.refuse .illegal).advance

/-- `s` with the instruction's word on the command port, so that the very next step executes it
(log 3). -/
def State.withFetchWord (s : State) (nbits w : Nat) : State :=
  { s with port := { s.port with cmd := BitVec.ofNat 24 (w % 2 ^ nbits) } }

end Sys2Proof.Machine
end

