-- ==== Sys2Proof/Machine/Assembler.lean ====
section
/-! DEFINITION. The text form of operations and the three pseudo-operations (30_encoding.md R97, R98).
It stands outside the machine: it turns lines of text into what the environment presents. -/

namespace Sys2Proof.Machine

/-- A line of a program: an operation with the level of `btn` (R97), or a pseudo-operation (R98). -/
inductive AsmLine where
  | op (i : Instr) (btn : Bool)
  /-- `STEPN n [btn=v]`. -/
  | stepN (n : Nat) (btn : Bool)
  /-- `TICKN n, wp, bp [btn=v]`. -/
  | tickN (n : Nat) (wp bp btn : Bool)
  /-- `SECOND wp, bp`. -/
  | second (wp bp : Bool)
  deriving DecidableEq, Repr

/-- What the environment presents for an operation (R80). -/
def presentation (i : Instr) (btn : Bool) : Input := ⟨encode i, btn⟩

/-- The expansion of a line (R98). `SECOND` is `STEPN F_TB` and one `TICK1S`; an omitted `btn` is 0 (R97). -/
def expandLine (p : Params) (l : AsmLine) : List Input :=
  match l with
  | .op i btn => [presentation i btn]
  | .stepN n btn => List.replicate n (presentation .step btn)
  | .tickN n wp bp btn => List.replicate n (presentation (.tick1s wp bp) btn)
  | .second wp bp =>
    List.replicate p.fTb (presentation .step false) ++ [presentation (.tick1s wp bp) false]

/-- The presentations of a whole program, in order. -/
def expandProgram (p : Params) (ls : List AsmLine) : List Input := ls.flatMap (expandLine p)

/-! ### Text (R97) -/

/-- A word or a comma of a line. -/
inductive AsmToken where
  | word (w : String)
  | comma
  deriving DecidableEq, Repr

def flushWord (w : List Char) : List AsmToken :=
  match w with
  | [] => []
  | _ => [.word (String.ofList w.reverse)]

/-- Words are cut at blanks and commas; a comment runs from a semicolon to the end of the line (R97). -/
def lexLine (cs : List Char) (w : List Char) : List AsmToken :=
  match cs with
  | [] => flushWord w
  | c :: rest =>
    if c = ';' then flushWord w
    else if c = ',' then flushWord w ++ .comma :: lexLine rest []
    else if c.isWhitespace then flushWord w ++ lexLine rest []
    else lexLine rest (c :: w)

/-- The value of a digit, decimal or hexadecimal. -/
def digitValue (c : Char) : Option Nat :=
  if '0' ≤ c ∧ c ≤ '9' then some (c.toNat - 48)
  else if 'a' ≤ c ∧ c ≤ 'f' then some (c.toNat - 87)
  else if 'A' ≤ c ∧ c ≤ 'F' then some (c.toNat - 55)
  else none

def digitsValue (base : Nat) (cs : List Char) (acc : Nat) : Option Nat :=
  match cs with
  | [] => some acc
  | c :: rest =>
    match digitValue c with
    | some d => if d < base then digitsValue base rest (acc * base + d) else none
    | none => none

/-- A number: decimal, or hexadecimal after `0x` (R97). Leading zeros are read (DESIGN CHOICE, log 13). -/
def numberValue (cs : List Char) : Option Nat :=
  match cs with
  | [] => none
  | '0' :: 'x' :: [] => none
  | '0' :: 'x' :: rest => digitsValue 16 rest 0
  | _ => digitsValue 10 cs 0

/-- A numeric operand that passes its range check. -/
def checkedNumber (ok : Nat → Bool) (w : String) : Option Nat :=
  match numberValue w.toList with
  | some n => if ok n then some n else none
  | none => none

/-- A channel by name or number (R86, R97). -/
def channelOperand (w : String) : Option Channel :=
  if w = "WaterRef" then some .waterRef
  else if w = "WaterMeasure" then some .waterMeasure
  else if w = "WindThresholdPot" then some .windThresholdPot
  else if w = "WaterThresholdPot" then some .waterThresholdPot
  else (checkedNumber channelOperandOk w).map fun n => channelOfBits (BitVec.ofNat 2 n)

def rawOperand (w : String) : Option U16 := (checkedNumber rawOperandOk w).map (BitVec.ofNat 16)

def bitOperand (w : String) : Option Bool := (checkedNumber bitOperandOk w).map fun n => n == 1

/-- `UP`, `DOWN`, 1 or 0 (R87, R97). -/
def directionOperand (w : String) : Option Direction :=
  if w = "UP" then some .up
  else if w = "DOWN" then some .down
  else (bitOperand w).map directionOfBit

/-- The register names of R50 and their indices, the gust timers apart. -/
def registerNames : List (String × Nat) :=
  [("STATUS", 0), ("ALARM", 1), ("THRESHOLD", 2), ("SETPOINT", 3), ("SP_D1", 4), ("SP_D2", 5),
   ("MINIMUM_SEEN", 6), ("AUTO_DOWN_TIMER", 7), ("SEQ_CNT", 8), ("WDG_ACK", 9), ("GUSTSTAT", 10),
   ("PREV0", 11), ("PREV1", 12)]

/-- `GT<i>` is index `16 + i`, `i` in 0..15 (R50), written in decimal (DESIGN CHOICE, log 13). -/
def gustTimerName (w : List Char) : Option Nat :=
  match w with
  | 'G' :: 'T' :: c :: rest =>
    match digitsValue 10 (c :: rest) 0 with
    | some n => if n < 16 then some (16 + n) else none
    | none => none
  | _ => none

/-- A status index by register name or number (R50, R97). -/
def indexOperand (w : String) : Option (BitVec 5) :=
  match registerNames.lookup w, gustTimerName w.toList with
  | some n, _ => some (BitVec.ofNat 5 n)
  | none, some n => some (BitVec.ofNat 5 n)
  | none, none => (checkedNumber indexOperandOk w).map (BitVec.ofNat 5)

/-- The level a last word `btn=v` gives, and the tokens before it; 0 when it is omitted (R97). DESIGN
CHOICE, safe (log 13): R97 does not say how `v` may be written, and only `btn=0` and `btn=1` are read; any
other spelling of a level (`btn=01`, `btn=0x1`, blanks round the `=`) is refused. -/
def takeBtn (ts : List AsmToken) : List AsmToken × Option Bool :=
  match ts.reverse with
  | .word "btn=0" :: rest => (rest.reverse, some false)
  | .word "btn=1" :: rest => (rest.reverse, some true)
  | _ => (ts, none)

/-- Operands, separated by commas (R97). -/
def operandWords (ts : List AsmToken) : Option (List String) :=
  match ts with
  | [] => some []
  | [.word w] => some [w]
  | .word w :: .comma :: .word v :: rest =>
    (operandWords (.word v :: rest)).map fun ws => w :: ws
  | _ => none

/-- The operation or pseudo-operation of a mnemonic and its operands (R97, R98). -/
def lineOf (mnemonic : String) (ops : List String) (btn : Option Bool) : Option AsmLine :=
  let v := btn.getD false
  match mnemonic, ops with
  | "NOP", [] => some (.op .nop v)
  | "SAMPLE", [c, r] => (channelOperand c).bind fun ch => (rawOperand r).map fun x => .op (.sample ch x) v
  | "RDFILT", [c] => (channelOperand c).map fun ch => .op (.rdfilt ch) v
  | "TICK1S", [w, b] => (bitOperand w).bind fun wp => (bitOperand b).map fun bp => .op (.tick1s wp bp) v
  | "MOVE", [d] => (directionOperand d).map fun dir => .op (.move dir) v
  | "STEP", [] => some (.op .step v)
  | "WDGACK", [] => some (.op .wdgack v)
  | "RDSTAT", [x] => (indexOperand x).map fun idx => .op (.rdstat idx) v
  | "STEPN", [n] => (numberValue n.toList).map fun k => .stepN k v
  | "TICKN", [n, w, b] =>
    (numberValue n.toList).bind fun k =>
      (bitOperand w).bind fun wp => (bitOperand b).map fun bp => .tickN k wp bp v
  | "SECOND", [w, b] =>
    if btn.isSome then none
    else (bitOperand w).bind fun wp => (bitOperand b).map fun bp => .second wp bp
  | _, _ => none

/-- One line of text: `none` when it is no line of R97 or R98, `some []` when it is blank or a
comment. -/
def parseLine (text : String) : Option (List AsmLine) :=
  match lexLine text.toList [] with
  | [] => some []
  | .word m :: rest =>
    (operandWords (takeBtn rest).1).bind fun ops =>
      (lineOf m ops (takeBtn rest).2).map fun l => [l]
  | _ => none

end Sys2Proof.Machine
end

