-- ==== Sys2Proof/Safety.lean ====
section
/-! DEFINITION. The vocabulary of the statements: the invariants of the block (43_actuator.md R191,
10_state.md R24, R25, R33, R34, R39, R42, R47; 90_conflicts.md C13), the environment's watchdog
obligation (70_reset_and_hazards.md R257), and runs over a list of presentations. -/

namespace Sys2Proof.Machine

/-- The pin laws of R191. -/
abbrev PinsLawful (p : Params) (b : Block) : Prop :=
  (b.drvPwr = true ↔ b.seq = .travel)
    ∧ (b.rlyAuto = true ↔ b.seq ≠ .idle)
    ∧ (b.seq = .idle → b.rlyDir = false ∧ b.seqCnt = 0#16 ∧ b.seqDir = .down ∧ b.seqPressed = false
        ∧ b.seqCont = .none)
    ∧ (b.seq ≠ .idle → b.lastResult = .none ∧ b.rlyDir = directionLevel p b.seqDir)

/-- The bound of `seq_cnt` in each phase (R39), and where a press can be recorded (R41, R183). -/
abbrev CountLawful (p : Params) (b : Block) : Prop :=
  (b.seq = .settle1 → 1 ≤ b.seqCnt.toNat ∧ b.seqCnt.toNat ≤ p.tRelaySettle.toNat
      ∧ b.seqPressed = false)
    ∧ (b.seq = .travel → 1 ≤ b.seqCnt.toNat ∧ b.seqCnt.toNat ≤ (travelTime p b.seqDir).toNat
      ∧ b.seqPressed = false)
    ∧ (b.seq = .settle2 → 1 ≤ b.seqCnt.toNat ∧ b.seqCnt.toNat ≤ p.tPostSettle.toNat)
    ∧ (b.seq = .waitRel → b.seqCnt = 0#16 ∧ b.seqPressed = true)

/-- What a pending continuation remembers of the evaluation that armed it (R42, R175, R177, R187). -/
abbrev ContLawful (b : Block) : Prop :=
  (b.seqCont = .raise → b.isDown = true ∧ b.seqDir = .up)
    ∧ (b.seqCont = .lower → b.isDown = false ∧ b.isAuto = true ∧ b.autoDownTimer = 0#16
        ∧ b.seqDir = .down)

/-- The gust bank: timers within the window, the ring pointer within the bank, nothing in the slots the
bank does not have (R24, R25). -/
abbrev BankLawful (p : Params) (b : Block) : Prop :=
  (∀ i : Fin 16, b.gt[i].toNat ≤ p.gustWindow.toNat)
    ∧ (∀ i : Fin 16, p.k ≤ i.val → b.gt[i] = 0#16)
    ∧ b.gnext.val ≤ p.k - 1

/-- The counters (R33, R34, R47) and the recorded flags (R35): an alarm flag is never recorded without
its pre-alarm flag (R131, R174). -/
abbrev CountersLawful (p : Params) (b : Block) : Prop :=
  b.waterAlarmCount.toNat ≤ p.waterAlmTime.toNat
    ∧ b.autoDownTimer.toNat ≤ p.fourHours.toNat
    ∧ b.wdgAck.toNat ≤ p.wdgAckReload.toNat
    ∧ (b.seq ≠ .idle → b.wdgAck = p.wdgAckReload)
    ∧ (b.alarmFlags.getLsbD 0 = true → b.alarmFlags.getLsbD 2 = true)
    ∧ (b.alarmFlags.getLsbD 1 = true → b.alarmFlags.getLsbD 3 = true)

/-- The invariant of the block. -/
abbrev BlockLawful (p : Params) (b : Block) : Prop :=
  PinsLawful p b ∧ CountLawful p b ∧ ContLawful b ∧ BankLawful p b ∧ CountersLawful p b

/-- The invariant of the machine. -/
abbrev Lawful (s : State) : Prop := BlockLawful s.cfg.val s.blk

/-- One operation presented to the machine, and the machine after it. -/
def presentAndStep (i : Input) (s : State) : Host.Outcome State Fault Refusal := step (s.present i)

/-- A run over the presentations of an environment, first to last (R68). -/
def drive (is : List Input) (s : State) : Host.Outcome State Fault Refusal :=
  match is with
  | [] => .next s
  | i :: rest =>
    match presentAndStep i s with
    | .next t => drive rest t
    | .fault r => .fault r
    | .refused r => .refused r

/-- The machine after a run, and the machine before it should a step stop. -/
def stateAfter (s : State) (o : Host.Outcome State Fault Refusal) : State :=
  match o with
  | .next t => t
  | .fault _ => s
  | .refused _ => s

/-- The response to each presentation of a run, beside its word (R12). -/
def answers (is : List Input) (s : State) : List (CmdWord × Option Response) :=
  match is with
  | [] => []
  | i :: rest =>
    let t := stateAfter s (presentAndStep i s)
    (i.cmd, t.port.resp) :: answers rest t

/-- The environment's watchdog obligation (R257) at one word, as a budget of idle `STEP`s: of the `left`
that may come before the next `TICK1S`, `MOVE` or `WDGACK`, an idle `STEP` takes one, and each of those
three restores all, as every `STEP` of a sequence does (R225). `none` where the budget is exceeded. -/
def budgetNext (left : Nat) (s : State) (w : CmdWord) : Option Nat :=
  match decode w with
  | .ok .step =>
    if s.blk.seq = .idle then (if left = 0 then none else some (left - 1))
    else some s.cfg.val.wdgAckReload.toNat
  | .ok (.tick1s _ _) => some s.cfg.val.wdgAckReload.toNat
  | .ok (.move _) => some s.cfg.val.wdgAckReload.toNat
  | .ok .wdgack => some s.cfg.val.wdgAckReload.toNat
  | _ => some left

/-- The environment's watchdog obligation (R257) along a run. -/
def watchdogFed (left : Nat) (is : List Input) (s : State) : Bool :=
  match is with
  | [] => true
  | i :: rest =>
    match budgetNext left s i.cmd with
    | some n => watchdogFed n rest (stateAfter s (presentAndStep i s))
    | none => false

/-- Whether an answered word is a `STEP` that reports a watchdog reset: bit 3 of its data (R90). -/
def reportsReset (a : CmdWord × Option Response) : Bool :=
  match decode a.1, a.2 with
  | .ok .step, some r => r.data.getLsbD 3
  | _, _ => false

/-! ### One evaluation in exact integers

What `TICK1S` computes, as the rules' arithmetic on mathematical integers gives it (R9), on the state
before it: the machine's own definitions compute in registers. -/

/-- `wd` (R146) of the filters as they stand. -/
def ratioNow (b : Block) : Nat :=
  if b.filt[0].toNat = 0 then 65535 else b.filt[1].toNat * 65536 / b.filt[0].toNat

/-- `water_pre`: strict, against the threshold at entry (R148). -/
def preAlarmNow (b : Block) : Bool := decide (ratioNow b < b.threshold.toNat)

/-- `water_alarm_count` after the count (R174), the override's clearing first (R173). -/
def countNext (p : Params) (bp : Bool) (b : Block) : Nat :=
  if preAlarmNow b then
    min ((if bp then 0 else b.waterAlarmCount.toNat) + 1) p.waterAlmTime.toNat
  else 0

/-- `water_alarm` (R174). -/
def waterAlarmNow (p : Params) (bp : Bool) (b : Block) : Bool :=
  decide (p.waterAlmTime.toNat ≤ countNext p bp b)

/-- The timers still active after this evaluation's ageing: those that read 2 or more (R131, R132). -/
def stillActive (p : Params) (bp : Bool) (b : Block) : Nat :=
  if bp then 0
  else ((List.finRange 16).filter fun i => decide (i.val < p.k) && decide (2 ≤ b.gt[i].toNat)).length

/-- `wind_alarm` (R131). -/
def windAlarmNow (p : Params) (wp bp : Bool) (b : Block) : Bool :=
  wp && decide (p.k ≤ stillActive p bp b)

/-- `alarm` (R170). -/
def alarmNow (p : Params) (wp bp : Bool) (b : Block) : Bool :=
  waterAlarmNow p bp b || windAlarmNow p wp bp b

/-- The record after the override (R173). -/
def downNow (bp : Bool) (b : Block) : Bool := bp || b.isDown

/-- The mode after the override (R173). -/
def autoNow (bp : Bool) (b : Block) : Bool := !bp && b.isAuto

/-- `absdiff` of two registers as integers (R9). -/
def distance (x y : U16) : Nat := max x.toNat y.toNat - min x.toNat y.toNat

/-- The threshold after clause (a) (R149). -/
def snappedThreshold (p : Params) (b : Block) : Nat :=
  if p.potDelta < distance b.filt[3] b.spD2 then b.filt[3].toNat else b.threshold.toNat

/-- `minimum_seen` after `WATER` (R151 to R155). -/
def minimumNext (bp : Bool) (b : Block) : Nat :=
  if downNow bp b then (if bp then b.minimumSeen.toNat else 65535)
  else if autoNow bp b then min b.minimumSeen.toNat (ratioNow b)
  else b.minimumSeen.toNat

/-- `threshold` after `WATER` (R150 to R155). -/
def thresholdNext (p : Params) (bp : Bool) (b : Block) : Nat :=
  let sp := b.filt[3].toNat
  let thr := snappedThreshold p b
  if downNow bp b then
    if bp then min (ratioNow b - p.thrBias) sp
    else if thr < sp then
      if sp + p.thrMargin ≤ ratioNow b then min (thr + p.thrStep) sp else thr
    else sp
  else if autoNow bp b then sp / 2 + minimumNext bp b / 2
  else sp

/-- The flags an evaluation records (R35), bit 3 to bit 0. -/
def flagsNext (p : Params) (wp bp : Bool) (b : Block) : Nat :=
  8 * wp.toNat + 4 * (preAlarmNow b).toNat + 2 * (windAlarmNow p wp bp b).toNat
    + (waterAlarmNow p bp b).toNat

/-- The actuation an evaluation invokes (R90, R175, R177): 0 none, 1 raise, 2 lower. -/
def actNext (p : Params) (wp bp : Bool) (b : Block) : Nat :=
  if downNow bp b then (if alarmNow p wp bp b then 1 else 0)
  else if alarmNow p wp bp b then 0
  else if autoNow bp b then (if b.autoDownTimer.toNat ≤ 1 then 2 else 0)
  else 0

/-- The sequencer's elements and the pins, in the order of R20. -/
structure SequencerView where
  seq : Phase
  seqCnt : U16
  seqDir : Direction
  seqPressed : Bool
  seqCont : Cont
  lastResult : ActResult
  rlyAuto : Bool
  rlyDir : Bool
  drvPwr : Bool
  deriving DecidableEq, Repr

/-- The sequencer's elements and the pins of a block (R38 to R46). -/
def sequencerOf (b : Block) : SequencerView :=
  ⟨b.seq, b.seqCnt, b.seqDir, b.seqPressed, b.seqCont, b.lastResult, b.rlyAuto, b.rlyDir, b.drvPwr⟩

/-- The alarm memory: `water_alarm_count`, the bank and `gnext` (R171). -/
def alarmMemoryOf (b : Block) : BitVec 3 × Bank × Fin 16 := (b.waterAlarmCount, b.gt, b.gnext)

/-- The alarm memory when it is clear (R171). -/
def clearMemory : BitVec 3 × Bank × Fin 16 := (0#3, Vector.replicate 16 0#16, 0)

/-- What one evaluation does to the bank and the ring pointer (R131): every timer ages; a pre-alarm that
finds fewer than K active timers is stored in the first free slot of the ring from the pointer, with the
window, and the pointer moves past it; otherwise nothing more. -/
def GustLaw (p : Params) (windPre : Bool) (before : Bank) (ptr : Fin 16) (after : Bank)
    (ptr' : Fin 16) : Prop :=
  ∃ aged : Bank,
    (∀ i : Fin 16, aged[i].toNat = if i.val < p.k then before[i].toNat - 1 else before[i].toNat)
      ∧ (if windPre = true
            ∧ ((List.finRange 16).filter fun i => decide (i.val < p.k) && decide (aged[i] ≠ 0#16)).length
                < p.k then
          ∃ j i : Nat, ∃ h : i < 16,
            j < p.k ∧ i = (ptr.val + j) % p.k ∧ aged[i] = 0#16
              ∧ (∀ j' < j, aged[(ptr.val + j') % p.k]? ≠ some 0#16)
              ∧ after = aged.set i p.gustWindow ∧ ptr'.val = (i + 1) % p.k
        else after = aged ∧ ptr' = ptr)

/-- The reading of R136: the evaluations, numbered from the bank's being empty, whose pre-alarm was
stored, newest first, as ages in evaluations; the alarm is a pre-alarm with `k` stored events among the
`w − 1` evaluations before it. Returns the alarm of each evaluation. -/
def slidingWindow (k w : Nat) (ages : List Nat) (pre : List Bool) : List Bool :=
  match pre with
  | [] => []
  | x :: rest =>
    let older := ages.map (· + 1)
    let inWindow := older.countP fun a => decide (a < w)
    let alarm := x && decide (k ≤ inWindow)
    alarm :: slidingWindow k w (if x && !alarm then 0 :: older else older) rest

/-- The alarms of the timer bank over successive evaluations (R131). -/
def gustAlarms (p : Params) (b : Block) (pre : List Bool) : List Bool :=
  match pre with
  | [] => []
  | x :: rest => (gust p x b).2 :: gustAlarms p (gust p x b).1 rest

end Sys2Proof.Machine
end

