-- ==== Sys2Proof/Certificates/Slice0/Obligations.lean ====
section
/-! DEFINITION. The statements for the provers. Each quantifies over every state, so over every
environment (20_memory.md R69) and every legal parameter record (00_scope.md R6). -/

open Sys2Proof Sys2Proof.Machine

/-! ### Encoding -/

/-- Decoding the encoding of any operation gives it back: no operand bit is dropped (R82 to R84, R96). -/
def Obligations.DecodeOfEncode : Prop :=
  ∀ i : Instr, decode (encode i) = .ok i

/-- Each legal word has one meaning: it is the encoding of what it decodes to (R84, R96). -/
def Obligations.EncodeOfDecode : Prop :=
  ∀ (w : CmdWord) (i : Instr), decode w = .ok i → encode i = w

/-- The decoder rejects exactly the words that match no row of the opcode table (R85, R92, R96). -/
def Obligations.IllegalExactlyWhenNoRowMatches : Prop :=
  ∀ w : CmdWord,
    (∃ e, decode w = .error e) ↔ ∀ r ∈ opcodeTable, w &&& r.mask ≠ r.pattern

/-- The rows of the opcode table are pairwise disjoint (R84). -/
def Obligations.OpcodeRowsAreDisjoint : Prop :=
  ∀ (w : CmdWord) (r₁ r₂ : OpRow), r₁ ∈ opcodeTable → r₂ ∈ opcodeTable →
    w &&& r₁.mask = r₁.pattern → w &&& r₂.mask = r₂.pattern → r₁ = r₂

/-- The worked encodings of R99, read and written, and its illegal examples. -/
def Obligations.WorkedEncodings : Prop :=
  (∀ x ∈ ([(0x000000#24, .nop), (0x189C40#24, .sample .windThresholdPot 40000),
        (0x1003E8#24, .sample .waterRef 1000), (0x2C0000#24, .rdfilt .waterThresholdPot),
        (0x300001#24, .tick1s true false), (0x300002#24, .tick1s false true), (0x400001#24, .move .up),
        (0x400000#24, .move .down), (0x500000#24, .step), (0x600000#24, .wdgack), (0x700007#24, .rdstat 7)] :
        List (CmdWord × Instr)),
      decode x.1 = .ok x.2 ∧ encode x.2 = x.1)
    ∧ decode 0x800000#24 = .error .reservedOpcode
    ∧ decode 0x500001#24 = .error .zeroBitSet ∧ decode 0x130000#24 = .error .zeroBitSet
    ∧ decode 0x300004#24 = .error .zeroBitSet

/-! ### Steps -/

/-- When the presented word decodes to `i`, a step is `exec i` at that state, after which the
environment's next presentation stands on the port: its word and `btn`, or, when it presents nothing,
the idle word with `btn` as it was (that idle port is the model's choice, log 3 and log 4). -/
def Obligations.StepRunsTheDecodedOperation : Prop :=
  ∀ (s : State) (i : Instr), decode s.port.cmd = .ok i →
    ∃ t, exec i s = .next t
      ∧ t.port.pending = s.port.pending
      ∧ (s.port.pending = [] →
        step s = .next { t with port := { t.port with cmd := 0x000000#24 } })
      ∧ (∀ (x : Input) (rest : List Input), s.port.pending = x :: rest →
        step s = .next { t with port := { t.port with cmd := x.cmd, btn := x.btn, pending := rest } })

/-- An illegal word is refused: no state element changes and the response is `(ILLEGAL, 0)` (R93). -/
def Obligations.IllegalWordIsRefused : Prop :=
  ∀ s : State, (∀ r ∈ opcodeTable, s.port.cmd &&& r.mask ≠ r.pattern) →
    ∃ t, step s = .next t ∧ t.blk = s.blk ∧ t.cfg = s.cfg
      ∧ t.port.resp = some ⟨.illegal, 0#16⟩

/-- Every step answers: from every state there is a next state, and it carries a response (R2, R12). -/
def Obligations.EveryStepAnswers : Prop :=
  ∀ s : State, ∃ t r, step s = .next t ∧ t.port.resp = some r

/-- No operation writes a parameter (R5). -/
def Obligations.NoStepWritesAParameter : Prop :=
  ∀ s t : State, step s = .next t → t.cfg = s.cfg

/-- Which status each operation can return (R224): `BUSY` from `TICK1S` and `MOVE` exactly while a
sequence is in progress, `ILLEGAL` from `RDSTAT` at a reserved index and from an undecodable word,
`OK` in every other case. -/
def Obligations.StatusOfEachOperation : Prop :=
  (∀ (i : Instr) (s : State), ∃ t r, exec i s = .next t ∧ t.port.resp = some r
      ∧ r.status =
        match i with
        | .tick1s _ _ => if s.blk.seq = .idle then .ok else .busy
        | .move _ => if s.blk.seq = .idle then .ok else .busy
        | .rdstat idx =>
          if (13 ≤ idx.toNat ∧ idx.toNat ≤ 15) ∨ (16 ≤ idx.toNat ∧ s.cfg.val.k ≤ idx.toNat - 16)
          then .illegal else .ok
        | _ => .ok)
    ∧ ∀ s : State, (∃ e, decode s.port.cmd = .error e) →
        ∃ t r, step s = .next t ∧ t.port.resp = some r ∧ r.status = .illegal

/-- A refusal is atomic and silent: a status other than `OK` comes with data 0, leaves every state
element as it was, and does not depend on `btn` (R221). -/
def Obligations.RefusalChangesNothing : Prop :=
  ∀ (i : Instr) (s t : State) (r : Response), exec i s = .next t → t.port.resp = some r →
    r.status ≠ .ok →
    r.data = 0#16 ∧ t.blk = s.blk ∧ t.cfg = s.cfg
      ∧ ∀ v : Bool, exec i { s with port := { s.port with btn := v } }
          = .next { s with port := { s.port with btn := v, resp := some r } }

/-! ### Reset and invariants -/

/-- `ResetState()` gives every element its reset value, and the machine's reset, for its own parameter
record as for any other, and the watchdog reset give exactly this block (R245), the latter
with the answer 8 (R185, R226). The model's own: the bank of R24 is held in 16 slots (log 6), and the
machine's reset state has the record of log 2. -/
def Obligations.ResetValues : Prop :=
  (∀ p : LegalParams,
      (State.resetWith p).blk =
        { filt := #v[0#16, 0#16, 0#16, 0#16], prev := #v[0#16, 0#16],
          gt := Vector.replicate 16 0#16, gnext := 0, threshold := 0#16, setpoint := 0#16,
          spD1 := 0#16, spD2 := 0#16, minimumSeen := 65535#16, isDown := true, isAuto := true,
          autoDownTimer := 0#16, waterAlarmCount := 0#3, alarmFlags := 0#4,
          seq := .idle, seqCnt := 0#16, seqDir := .down, seqPressed := false, seqCont := .none,
          lastResult := .none, rlyAuto := false, rlyDir := false, drvPwr := false,
          wdgAck := p.val.wdgAckReload })
    ∧ State.reset.blk = (State.resetWith State.reset.cfg).blk
    ∧ ∀ s : State, s.blk.seq = .idle → s.blk.wdgAck = 0#16 →
        exec .step s = .next (s.answered (State.resetWith s.cfg).blk .ok 8#16)

/-- The reset state satisfies every invariant, for every legal parameter record (R248). -/
def Obligations.ResetStateIsLawful : Prop :=
  (∀ p : LegalParams, Lawful (State.resetWith p)) ∧ Lawful State.reset

/-- Every step keeps the invariants of the block: the pin laws (R191), the bounds of every counter (R39,
R34, R33, R47), the gust bank's (R24, R25; the slots the bank does not have hold 0, log 6), and what a
pending continuation remembers (R42, R187). -/
def Obligations.EveryStepKeepsTheInvariants : Prop :=
  ∀ s t : State, Lawful s → step s = .next t → Lawful t

/-! ### Filter Bank -/

/-- `SAMPLE` (R113): a water channel stores the raw sample and filters its distance from the previous
one slowly; a pot channel filters the raw sample fast; the response is the new value; nothing else
changes. The filter step is exact, on integers. Its word has opcode 1, the channel, two zeros, `raw`. -/
def Obligations.SampleFiltersOneChannel : Prop :=
  ∀ (s : State) (raw : U16),
    (∀ ch : Channel,
        decode (0x1#4 ++ BitVec.ofNat 2 (channelIndex ch).val ++ 0#2 ++ raw) = .ok (.sample ch raw))
      ∧ (∀ x ∈ ([(.waterRef, 0), (.waterMeasure, 1)] : List (Channel × Fin 2)), ∃ v : U16,
        v.toNat = (s.blk.filt[channelIndex x.1].toNat * s.cfg.val.aSlowQ15.toNat
            + distance raw s.blk.prev[x.2] * (32768 - s.cfg.val.aSlowQ15.toNat)) / 32768
        ∧ exec (.sample x.1 raw) s = .next (s.answered
            { s.blk with filt := s.blk.filt.set (channelIndex x.1) v, prev := s.blk.prev.set x.2 raw }
            .ok v))
      ∧ (∀ ch ∈ [Channel.windThresholdPot, .waterThresholdPot], ∃ v : U16,
        v.toNat = (s.blk.filt[channelIndex ch].toNat * s.cfg.val.aFastQ15.toNat
            + raw.toNat * (32768 - s.cfg.val.aFastQ15.toNat)) / 32768
        ∧ exec (.sample ch raw) s = .next (s.answered
            { s.blk with filt := s.blk.filt.set (channelIndex ch) v } .ok v))

/-- The range law (R114): the filter step stays between the estimate and the input, the truncation to 16
bits discards no set bit, and the accumulator never exceeds 2147450880. -/
def Obligations.FilterStaysInRange : Prop :=
  ∀ y x a : U16, a.toNat ≤ 32768 →
    min y.toNat x.toNat ≤ (iir y x a).toNat ∧ (iir y x a).toNat ≤ max y.toNat x.toNat
      ∧ (iir y x a).toNat = (y.toNat * a.toNat + x.toNat * (32768 - a.toNat)) / 32768
      ∧ y.toNat * a.toNat + x.toNat * (32768 - a.toNat) ≤ 2147450880

/-- The truncation laws (R115 a, b, d, f and the single step of c): fixed point, monotone in both
arguments, strict descent, the rising dead band, and the two extreme coefficients. -/
def Obligations.FilterTruncationLaws : Prop :=
  (∀ y a : U16, a.toNat ≤ 32768 → iir y y a = y)
    ∧ (∀ y y' x x' a : U16, a.toNat ≤ 32768 → y.toNat ≤ y'.toNat → x.toNat ≤ x'.toNat →
        (iir y x a).toNat ≤ (iir y' x' a).toNat)
    ∧ (∀ y x a : U16, a.toNat < 32768 → x.toNat < y.toNat → (iir y x a).toNat ≤ y.toNat - 1)
    ∧ (∀ y x a : U16, a.toNat < 32768 → y.toNat < x.toNat →
        (iir y x a = y ↔ (x.toNat - y.toNat) * (32768 - a.toNat) < 32768))
    ∧ (∀ y x : U16, iir y x 0#16 = x ∧ iir y x 32768#16 = y)

/-- A constant input is reached exactly from above in finitely many steps, and stays; from below the
estimate never passes it and comes to rest in finitely many steps, within the dead band (R115 c, e). -/
def Obligations.FilterConvergence : Prop :=
  ∀ y x a : U16, a.toNat < 32768 →
    (x.toNat ≤ y.toNat → ∃ n : Nat, ∀ m ≥ n, (fun z => iir z x a)^[m] y = x)
      ∧ (y.toNat ≤ x.toNat → ∀ n : Nat, ((fun z => iir z x a)^[n] y).toNat ≤ x.toNat)
      ∧ (y.toNat ≤ x.toNat → ∃ (n : Nat) (rest : U16),
          (∀ m ≥ n, (fun z => iir z x a)^[m] y = rest)
            ∧ x.toNat - rest.toNat ≤ (32768 + (32768 - a.toNat) - 1) / (32768 - a.toNat) - 1)
      ∧ (y.toNat ≤ x.toNat → iir y x a = y →
          x.toNat - y.toNat ≤ (32768 + (32768 - a.toNat) - 1) / (32768 - a.toNat) - 1)

/-- `RDFILT` (R116): the register's value, nothing changed; directly after a `SAMPLE` of the channel it
answers what that `SAMPLE` answered, and a `SAMPLE` of another channel does not change it. -/
def Obligations.ReadFilterAnswersTheLastSample : Prop :=
  (∀ (s : State) (ch : Channel),
      exec (.rdfilt ch) s = .next (s.answered s.blk .ok s.blk.filt[channelIndex ch]))
    ∧ (∀ (s : State) (ch : Channel) (raw : U16), ∃ t, exec (.sample ch raw) s = .next t
        ∧ (∃ u, exec (.rdfilt ch) t = .next u ∧ u.port.resp = t.port.resp ∧ u.blk = t.blk)
        ∧ ∀ ch' : Channel, ch' ≠ ch →
            t.blk.filt[channelIndex ch'] = s.blk.filt[channelIndex ch'])

/-- The Filter Bank has one writer: a step that executes any operation but `SAMPLE` leaves `filt` and
`prev` as they were, unless it is the watchdog reset; a `SAMPLE` writes nothing but them (R23, R234). -/
def Obligations.FilterBankHasOneWriter : Prop :=
  ∀ (i : Instr) (s t : State), exec i s = .next t →
    ((∀ ch raw, i ≠ .sample ch raw) →
        (t.blk.filt = s.blk.filt ∧ t.blk.prev = s.blk.prev)
          ∨ (i = .step ∧ s.blk.seq = .idle ∧ s.blk.wdgAck = 0#16))
      ∧ (∀ ch raw, i = .sample ch raw →
          t.blk = { s.blk with filt := t.blk.filt, prev := t.blk.prev })

/-! ### System operations -/

/-- `NOP` is the word 0, changes nothing and answers `(OK, 0)`; and removing all `NOP`s from an
operation stream gives the same run: the same block at the end and the same answers to all other words
(R210). -/
def Obligations.NopsCanBeRemovedFromARun : Prop :=
  decode 0x000000#24 = .ok .nop
    ∧ (∀ s : State, exec .nop s = .next (s.answered s.blk .ok 0#16))
    ∧ ∀ (is : List Input) (s : State),
        let live := is.filter fun i => decide (i.cmd ≠ 0x000000#24)
        (stateAfter s (drive live s)).blk = (stateAfter s (drive is s)).blk
          ∧ answers live s = (answers is s).filter fun a => decide (a.1 ≠ 0x000000#24)

/-- `WDGACK`, the word `0x600000`, reloads `wdg_ack`, changes nothing else and answers `(OK, 0)`
(R211). -/
def Obligations.WatchdogAckReloads : Prop :=
  decode 0x600000#24 = .ok .wdgack
    ∧ ∀ s : State, exec .wdgack s
        = .next (s.answered { s.blk with wdgAck := s.cfg.val.wdgAckReload } .ok 0#16)

/-- `RDSTAT` at the indices of one register each, at the gust timers, and at the reserved indices
(R50, R213); the words of indices 0, 1 and 10 are in the next two statements. -/
def Obligations.StatusViewMap : Prop :=
  ∀ s : State,
    (∀ x ∈ ([(2, s.blk.threshold), (3, s.blk.setpoint), (4, s.blk.spD1), (5, s.blk.spD2),
          (6, s.blk.minimumSeen), (7, s.blk.autoDownTimer), (8, s.blk.seqCnt), (9, s.blk.wdgAck),
          (11, s.blk.prev[0]), (12, s.blk.prev[1])] : List (BitVec 5 × U16)),
        exec (.rdstat x.1) s = .next (s.answered s.blk .ok x.2))
      ∧ (∀ (idx : BitVec 5) (i : Nat) (h : i < 16), idx.toNat = 16 + i → i < s.cfg.val.k →
        exec (.rdstat idx) s = .next (s.answered s.blk .ok s.blk.gt[i]))
      ∧ (∀ idx : BitVec 5,
        (13 ≤ idx.toNat ∧ idx.toNat ≤ 15) ∨ (16 ≤ idx.toNat ∧ s.cfg.val.k ≤ idx.toNat - 16) →
        exec (.rdstat idx) s = .next (s.answered s.blk .illegal 0#16))

/-- The fields of `STATUS`, as `RDSTAT 0` answers it (R51), with the numbers of the phases (R38), the
continuations (R42) and the results (R88) written out. -/
def Obligations.StatusWordFields : Prop :=
  (∀ s : State, ∃ v : U16, exec (.rdstat 0) s = .next (s.answered s.blk .ok v)
      ∧ v.getLsbD 0 = s.blk.isDown ∧ v.getLsbD 1 = s.blk.isAuto
      ∧ v.getLsbD 2 = decide (s.blk.seq ≠ .idle)
      ∧ v.extractLsb' 3 3 = (match s.blk.seq with
          | .idle => 0#3 | .settle1 => 1#3 | .travel => 2#3 | .settle2 => 3#3 | .waitRel => 4#3)
      ∧ v.getLsbD 6 = decide (s.blk.seqDir = .up) ∧ v.getLsbD 7 = s.blk.seqPressed
      ∧ v.extractLsb' 8 2 = (match s.blk.seqCont with | .none => 0#2 | .raise => 1#2 | .lower => 2#2)
      ∧ v.extractLsb' 10 2 = (match s.blk.lastResult with
          | .none => 0#2 | .completed => 1#2 | .interrupted => 2#2)
      ∧ v.getLsbD 12 = s.blk.rlyAuto ∧ v.getLsbD 13 = s.blk.rlyDir ∧ v.getLsbD 14 = s.blk.drvPwr
      ∧ v.getLsbD 15 = false)
    ∧ ∀ p : LegalParams, exec (.rdstat 0) (State.resetWith p)
        = .next ((State.resetWith p).answered (State.resetWith p).blk .ok 0x0003#16)

/-- The fields of `ALARM` and `GUSTSTAT`, as `RDSTAT 1` and `RDSTAT 10` answer them (R52, R53). -/
def Obligations.AlarmAndGustWordFields : Prop :=
  (∀ s : State, ∃ v : U16, exec (.rdstat 1) s = .next (s.answered s.blk .ok v)
      ∧ v.extractLsb' 0 4 = s.blk.alarmFlags ∧ v.extractLsb' 4 3 = s.blk.waterAlarmCount
      ∧ v.extractLsb' 7 9 = 0#9)
    ∧ (∀ s : State, ∃ v : U16, exec (.rdstat 10) s = .next (s.answered s.blk .ok v)
      ∧ (v.extractLsb' 0 5).toNat
          = ((List.finRange 16).filter fun i =>
              decide (i.val < s.cfg.val.k) && decide (s.blk.gt[i] ≠ 0#16)).length
      ∧ v.extractLsb' 5 3 = 0#3 ∧ (v.extractLsb' 8 4).toNat = s.blk.gnext.val
      ∧ v.extractLsb' 12 4 = 0#4)
    ∧ ∀ p : LegalParams, ∀ idx ∈ ([1, 10] : List (BitVec 5)),
        exec (.rdstat idx) (State.resetWith p)
          = .next ((State.resetWith p).answered (State.resetWith p).blk .ok 0#16)

/-- Reads have no side effect: `NOP`, `RDFILT` and `RDSTAT` change no state element, in any order and
however often, and repeat their answer (R67). -/
def Obligations.ReadsHaveNoEffect : Prop :=
  ∀ (i : Instr) (s : State), (i = .nop ∨ (∃ ch, i = .rdfilt ch) ∨ ∃ idx, i = .rdstat idx) →
    ∃ t, exec i s = .next t ∧ t.blk = s.blk ∧ t.cfg = s.cfg ∧ exec i t = .next t

/-- `SAMPLE` commutes with every operation that R70 names, and `SAMPLE` of channel 2 with `TICK1S`: in
either order the block is the same and so are the two responses. It holds in every state: whatever the
free value of log 7 is, it does not see the filter bank. -/
def Obligations.SampleCommutes : Prop :=
  ∀ (s : State) (ch : Channel) (raw : U16) (i : Instr),
    (i = .nop ∨ i = .wdgack ∨ (∃ d, i = .move d)
      ∨ (i = .step ∧ ¬ (s.blk.seq = .idle ∧ s.blk.wdgAck = 0#16))
      ∨ (∃ ch', i = .rdfilt ch' ∧ ch' ≠ ch)
      ∨ (∃ idx : BitVec 5, i = .rdstat idx
          ∧ ¬ (idx = 11 ∧ ch = .waterRef) ∧ ¬ (idx = 12 ∧ ch = .waterMeasure))
      ∨ (ch = .windThresholdPot ∧ ∃ wp bp, i = .tick1s wp bp)) →
    ∃ a b c d, exec (.sample ch raw) s = .next a ∧ exec i a = .next b
      ∧ exec i s = .next c ∧ exec (.sample ch raw) c = .next d
      ∧ b.blk = d.blk ∧ a.port.resp = d.port.resp ∧ b.port.resp = c.port.resp

/-! ### The one-second evaluation -/

/-- `TICK1S` and `MOVE` presented while a sequence is in progress are refused `BUSY` and change nothing
(R196). -/
def Obligations.BusyWhileASequenceRuns : Prop :=
  ∀ s : State, s.blk.seq ≠ .idle →
    (∀ wp bp, exec (.tick1s wp bp) s = .next (s.answered s.blk .busy 0#16))
      ∧ ∀ d, exec (.move d) s = .next (s.answered s.blk .busy 0#16)

/-- An accepted `TICK1S` (R170): the flags it records and answers, the actuation it reports, the delay
line and the minimum it keeps, the watchdog it refreshes, and what it never touches. Everything is given
in exact integers. -/
def Obligations.TickRecordsTheEvaluation : Prop :=
  ∀ (s : State) (wp bp : Bool), s.blk.seq = .idle →
    ∃ (t : State) (data : U16), exec (.tick1s wp bp) s = .next t
      ∧ t.port = { s.port with resp := some ⟨.ok, data⟩ } ∧ t.cfg = s.cfg
      ∧ data.toNat = 64 * (decide (actNext s.cfg.val wp bp s.blk ≠ 0) && s.port.btn).toNat
          + 16 * actNext s.cfg.val wp bp s.blk + flagsNext s.cfg.val wp bp s.blk
      ∧ t.blk.alarmFlags.toNat = flagsNext s.cfg.val wp bp s.blk
      ∧ t.blk.setpoint = s.blk.filt[3] ∧ t.blk.spD1 = s.blk.filt[3] ∧ t.blk.spD2 = s.blk.spD1
      ∧ t.blk.minimumSeen.toNat = minimumNext bp s.blk
      ∧ t.blk.wdgAck = s.cfg.val.wdgAckReload
      ∧ t.blk.filt = s.blk.filt ∧ t.blk.prev = s.blk.prev ∧ t.blk.drvPwr = s.blk.drvPwr

/-- The threshold after an accepted `TICK1S` is the one the policy gives (R147, R150 to R155), but for an
actuation refused at once under `SNAP_TO_SETPOINT`, where it is the setpoint (R187). `POT_DELTA`,
`THR_BIAS`, `THR_STEP` and `THR_MARGIN` are not negative here (log 8). -/
def Obligations.TickAdaptsTheThreshold : Prop :=
  ∀ (s : State) (wp bp : Bool), s.blk.seq = .idle →
    ∃ t, exec (.tick1s wp bp) s = .next t
      ∧ t.blk.threshold.toNat =
          if actNext s.cfg.val wp bp s.blk ≠ 0 ∧ s.port.btn = true
              ∧ s.cfg.val.fallbackThrPolicy = .snapToSetpoint then s.blk.filt[3].toNat
          else thresholdNext s.cfg.val bp s.blk

/-- After an evaluation that finds the awning Down, `threshold ≤ setpoint` (R158). -/
def Obligations.ThresholdAtMostSetpointWhenDown : Prop :=
  ∀ (s : State) (wp bp : Bool), s.blk.seq = .idle → (bp = true ∨ s.blk.isDown = true) →
    ∃ t, exec (.tick1s wp bp) s = .next t ∧ t.blk.threshold.toNat ≤ t.blk.setpoint.toNat

/-- An accepted `TICK1S` moves the gust bank as `GUST` says (R131): from the bank as it stands, or from
the cleared one after an override, and to the cleared one when an actuation is refused at once. -/
def Obligations.TickMovesTheGustBank : Prop :=
  ∀ (s : State) (wp bp : Bool), s.blk.seq = .idle →
    ∃ t, exec (.tick1s wp bp) s = .next t
      ∧ (if actNext s.cfg.val wp bp s.blk ≠ 0 ∧ s.port.btn = true then
          t.blk.gt = Vector.replicate 16 0#16 ∧ t.blk.gnext = 0
        else GustLaw s.cfg.val wp (if bp then Vector.replicate 16 0#16 else s.blk.gt)
          (if bp then 0 else s.blk.gnext) t.blk.gt t.blk.gnext)

/-- The manual override (R173): whatever the state, `TICK1S` with `bp = 1` leaves Manual, recorded Down
and the auto-down timer as it was; and where one evaluation cannot refill the cleared alarm memory it
moves nothing and reports no actuation. -/
def Obligations.ManualOverride : Prop :=
  ∀ (s : State) (wp : Bool), s.blk.seq = .idle →
    ∃ (t : State) (data : U16), exec (.tick1s wp true) s = .next t
      ∧ t.port.resp = some ⟨.ok, data⟩
      ∧ t.blk.isAuto = false ∧ t.blk.isDown = true ∧ t.blk.autoDownTimer = s.blk.autoDownTimer
      ∧ (2 ≤ s.cfg.val.waterAlmTime.toNat → 2 ≤ s.cfg.val.gustN →
          sequencerOf t.blk = sequencerOf s.blk ∧ data.extractLsb' 4 3 = 0#3
            ∧ t.blk.waterAlarmCount.toNat ≤ 1)

/-- Down and an alarm (R175): a raise is invoked, in Auto and in Manual alike. Without the button the
sequence starts, with the raise as its continuation; with it the start is refused and the awning is in
Manual, recorded Down, the alarm memory clear, no pin and no sequencer element changed. -/
def Obligations.DownAndAlarmInvokesRaise : Prop :=
  ∀ (s : State) (wp bp : Bool), s.blk.seq = .idle → downNow bp s.blk = true →
    alarmNow s.cfg.val wp bp s.blk = true →
    ∃ t, exec (.tick1s wp bp) s = .next t ∧ t.blk.isDown = true
      ∧ t.blk.autoDownTimer = s.blk.autoDownTimer
      ∧ (s.port.btn = false →
          sequencerOf t.blk = ⟨.settle1, s.cfg.val.tRelaySettle, .up, false, .raise, .none, true,
              s.cfg.val.dirUpLevel, s.blk.drvPwr⟩
            ∧ t.blk.isAuto = autoNow bp s.blk
            ∧ t.blk.waterAlarmCount.toNat = countNext s.cfg.val bp s.blk)
      ∧ (s.port.btn = true →
          sequencerOf t.blk = sequencerOf { s.blk with lastResult := .interrupted }
            ∧ t.blk.isAuto = false ∧ alarmMemoryOf t.blk = clearMemory)

/-- Up and an alarm (R176): the auto-down timer is reloaded, whatever its value and in either mode, and
nothing else of the state machine moves; the alarm memory is not cleared: the count and the gust bank
are what parts 2 and 3 of the evaluation made them. -/
def Obligations.UpAndAlarmReloadsTheTimer : Prop :=
  ∀ (s : State) (wp bp : Bool), s.blk.seq = .idle → downNow bp s.blk = false →
    alarmNow s.cfg.val wp bp s.blk = true →
    ∃ t, exec (.tick1s wp bp) s = .next t ∧ t.blk.autoDownTimer = s.cfg.val.fourHours
      ∧ t.blk.isDown = false ∧ t.blk.isAuto = s.blk.isAuto
      ∧ t.blk.waterAlarmCount.toNat = countNext s.cfg.val bp s.blk
      ∧ GustLaw s.cfg.val wp s.blk.gt s.blk.gnext t.blk.gt t.blk.gnext
      ∧ sequencerOf t.blk = sequencerOf s.blk

/-- Up, Auto, no alarm (R177): the timer counts down, never below 0; at 0 a lowering is invoked in the
same evaluation, with the lowering as its continuation, or, with the button pressed, refused into Manual
and recorded Down. -/
def Obligations.UpAutoQuietCountsDownAndLowers : Prop :=
  ∀ (s : State) (wp bp : Bool), s.blk.seq = .idle → downNow bp s.blk = false →
    autoNow bp s.blk = true → alarmNow s.cfg.val wp bp s.blk = false →
    ∃ t, exec (.tick1s wp bp) s = .next t
      ∧ t.blk.autoDownTimer.toNat = s.blk.autoDownTimer.toNat - 1
      ∧ (2 ≤ s.blk.autoDownTimer.toNat →
          sequencerOf t.blk = sequencerOf s.blk ∧ t.blk.isDown = false ∧ t.blk.isAuto = true
            ∧ t.blk.waterAlarmCount.toNat = countNext s.cfg.val bp s.blk)
      ∧ (s.blk.autoDownTimer.toNat ≤ 1 → s.port.btn = false →
          sequencerOf t.blk = ⟨.settle1, s.cfg.val.tRelaySettle, .down, false, .lower, .none, true,
              !s.cfg.val.dirUpLevel, s.blk.drvPwr⟩
            ∧ t.blk.isDown = false ∧ t.blk.isAuto = true
            ∧ t.blk.waterAlarmCount.toNat = countNext s.cfg.val bp s.blk)
      ∧ (s.blk.autoDownTimer.toNat ≤ 1 → s.port.btn = true →
          sequencerOf t.blk = sequencerOf { s.blk with lastResult := .interrupted }
            ∧ t.blk.isDown = true ∧ t.blk.isAuto = false ∧ alarmMemoryOf t.blk = clearMemory)

/-- Every other case does nothing at the transitions (R178): Down without an alarm, in either mode, and
Up and Manual without an alarm. -/
def Obligations.OtherwiseNoTransition : Prop :=
  ∀ (s : State) (wp bp : Bool), s.blk.seq = .idle →
    (downNow bp s.blk = true ∨ autoNow bp s.blk = false) →
    alarmNow s.cfg.val wp bp s.blk = false →
    ∃ t, exec (.tick1s wp bp) s = .next t ∧ sequencerOf t.blk = sequencerOf s.blk
      ∧ t.blk.autoDownTimer = s.blk.autoDownTimer
      ∧ t.blk.isDown = downNow bp s.blk ∧ t.blk.isAuto = autoNow bp s.blk
      ∧ t.blk.waterAlarmCount.toNat = countNext s.cfg.val bp s.blk

/-! ### Water ratio and gust window -/

/-- The ratio (R146, R157): 65535 at a zero reference, tested first; else the floor of the exact
quotient; 65536 at equal non-zero readings; never 2^32 or more. -/
def Obligations.WaterRatioLaws : Prop :=
  (∀ m : U16, waterRatio 0#16 m = 65535)
    ∧ (∀ r m : U16, r ≠ 0#16 → waterRatio r m = m.toNat * 65536 / r.toNat)
    ∧ (∀ r : U16, r ≠ 0#16 → waterRatio r r = 65536)
    ∧ (∀ r m : U16, waterRatio r m ≤ 4294901760) ∧ waterRatio 1#16 65535#16 = 4294901760

/-- The bank of timers computes the sliding window (R136): from an empty bank, over any sequence of
evaluations, it alarms exactly when there is a pre-alarm and K stored events lie in the W − 1
evaluations before it. -/
def Obligations.TimerBankIsASlidingWindow : Prop :=
  ∀ (p : LegalParams) (b : Block) (pre : List Bool), b.gt = Vector.replicate 16 0#16 →
    gustAlarms p.val b pre = slidingWindow p.val.k p.val.gustWindow.toNat [] pre

/-- N consecutive pre-alarm seconds from an empty bank give exactly one alarm, on the N-th, when the
window holds N; fewer than N pre-alarms give none (R137). -/
def Obligations.NthConsecutiveGustAlarms : Prop :=
  ∀ (p : LegalParams) (b : Block), b.gt = Vector.replicate 16 0#16 →
    (p.val.gustN ≤ p.val.gustWindow.toNat →
      gustAlarms p.val b (List.replicate p.val.gustN true)
        = List.replicate p.val.k false ++ [true])
      ∧ ∀ pre : List Bool, pre.count true < p.val.gustN →
        gustAlarms p.val b pre = List.replicate pre.length false

/-- The relaxation converges (R159): over evaluations in Down without override or wind pre-alarm, with an
unchanged setpoint, `threshold ≤ setpoint` and a ratio at least the margin above it, the threshold after
the n-th is exactly `min (threshold + n * THR_STEP) setpoint`, and nothing is actuated. -/
def Obligations.ThresholdRelaxesToTheSetpoint : Prop :=
  ∀ (s : State) (n : Nat), s.blk.seq = .idle → s.blk.isDown = true →
    s.blk.spD1 = s.blk.filt[3] → s.blk.spD2 = s.blk.filt[3] →
    s.blk.threshold.toNat ≤ s.blk.filt[3].toNat →
    s.blk.filt[3].toNat + s.cfg.val.thrMargin ≤ ratioNow s.blk →
    ∃ t, drive (List.replicate n (presentation (.tick1s false false) false)) s = .next t
      ∧ t.blk.threshold.toNat
          = min (s.blk.threshold.toNat + n * s.cfg.val.thrStep) s.blk.filt[3].toNat
      ∧ sequencerOf t.blk = sequencerOf s.blk

/-! ### Starting and running a sequence -/

/-- `MOVE` while idle (R180, R181, R182): without the button the sequence starts, with no continuation;
with it the start is refused at once, and only `last_result` and the watchdog countdown change. -/
def Obligations.MoveStartsOrIsRefusedAtOnce : Prop :=
  ∀ (s : State) (d : Direction), s.blk.seq = .idle →
    (s.port.btn = false →
      exec (.move d) s = .next (s.answered
        { s.blk with
          wdgAck := s.cfg.val.wdgAckReload, rlyAuto := true,
          rlyDir := if d = .up then s.cfg.val.dirUpLevel else !s.cfg.val.dirUpLevel,
          seq := .settle1, seqCnt := s.cfg.val.tRelaySettle, seqDir := d, seqPressed := false,
          seqCont := .none, lastResult := .none } .ok 0#16))
      ∧ (s.port.btn = true →
        exec (.move d) s = .next (s.answered
          { s.blk with wdgAck := s.cfg.val.wdgAckReload, lastResult := .interrupted } .ok 2#16))

/-- A `STEP` while idle (R225, R226): it counts `wdg_ack` down and changes nothing else; when it finds 0
it gives every element its reset value and answers `wdt_reset`. -/
def Obligations.IdleStepCountsDownOrResets : Prop :=
  ∀ s : State, s.blk.seq = .idle →
    (s.blk.wdgAck ≠ 0#16 →
      ∃ v : U16, v.toNat = s.blk.wdgAck.toNat - 1
        ∧ exec .step s = .next (s.answered { s.blk with wdgAck := v } .ok 0#16))
      ∧ (s.blk.wdgAck = 0#16 →
        exec .step s = .next (s.answered (State.resetWith s.cfg).blk .ok 0x0008#16))

/-- A `STEP` that stays in a timed phase or passes to the next (R185, R188 to R190): the settling delay,
the travel with the button tested before the count, and the further settle delay until its last step.
`seq_cnt` is at least 1, as it is in every timed phase that a run reaches (R39; log 7). -/
def Obligations.StepAdvancesTheSequence : Prop :=
  ∀ s : State, s.blk.seqCnt ≠ 0#16 →
    let less := s.blk.seqCnt - 1#16
    let reload := s.cfg.val.wdgAckReload
    (s.blk.seq = .settle1 → s.blk.seqCnt ≠ 1#16 →
        exec .step s = .next (s.answered { s.blk with wdgAck := reload, seqCnt := less } .ok 0#16))
      ∧ (s.blk.seq = .settle1 → s.blk.seqCnt = 1#16 →
        exec .step s = .next (s.answered { s.blk with
          wdgAck := reload, drvPwr := true, seq := .travel,
          seqCnt := if s.blk.seqDir = .up then s.cfg.val.tTravelUp else s.cfg.val.tTravelDown }
          .ok 0#16))
      ∧ (s.blk.seq = .travel → s.port.btn = true →
        exec .step s = .next (s.answered { s.blk with
          wdgAck := reload, seqPressed := true, drvPwr := false, seq := .settle2,
          seqCnt := s.cfg.val.tPostSettle } .ok 0#16))
      ∧ (s.blk.seq = .travel → s.port.btn = false → s.blk.seqCnt ≠ 1#16 →
        exec .step s = .next (s.answered { s.blk with wdgAck := reload, seqCnt := less } .ok 0#16))
      ∧ (s.blk.seq = .travel → s.port.btn = false → s.blk.seqCnt = 1#16 →
        exec .step s = .next (s.answered { s.blk with
          wdgAck := reload, drvPwr := false, seq := .settle2, seqCnt := s.cfg.val.tPostSettle }
          .ok 0#16))
      ∧ (s.blk.seq = .settle2 → s.blk.seqCnt ≠ 1#16 →
        exec .step s = .next (s.answered { s.blk with wdgAck := reload, seqCnt := less } .ok 0#16))

/-- The end of a sequence (R185 to R187, R192). Where the last `STEP` of `SETTLE2` finds no recorded
press the sequence is `COMPLETED`; where a press was recorded it is `INTERRUPTED` at the first `STEP`,
from that last one on, with the button released, and waits in `WAITREL` until then. Every sequencer
element and pin then has its reset value, and the continuation has run: nothing for a `MOVE`; Up and
the timer loaded for a completed raise; Down for a completed lowering; Manual and Down for an
interrupted one; the alarm memory cleared for all but a `MOVE`. -/
def Obligations.SequenceEndRunsTheContinuation : Prop :=
  ∀ s : State,
    let reload := s.cfg.val.wdgAckReload
    let ended (res : ActResult) : Block :=
      { s.blk with
        wdgAck := reload, rlyAuto := false, rlyDir := false, drvPwr := false, lastResult := res,
        seq := .idle, seqCnt := 0#16, seqDir := .down, seqPressed := false, seqCont := .none }
    let cleared (b : Block) : Block :=
      { b with waterAlarmCount := 0#3, gt := Vector.replicate 16 0#16, gnext := 0 }
    let completed : Block :=
      match s.blk.seqCont with
      | .none => ended .completed
      | .raise => cleared { ended .completed with isDown := false, autoDownTimer := s.cfg.val.fourHours }
      | .lower => cleared { ended .completed with isDown := true }
    let interrupted : Block :=
      match s.blk.seqCont with
      | .none => ended .interrupted
      | _ => cleared { ended .interrupted with
          isAuto := false, isDown := true,
          threshold := if s.cfg.val.fallbackThrPolicy = .snapToSetpoint then s.blk.setpoint
            else s.blk.threshold }
    (s.blk.seq = .settle2 → s.blk.seqCnt = 1#16 → s.blk.seqPressed = false →
        exec .step s = .next (s.answered completed .ok 0x0005#16))
      ∧ (s.blk.seq = .settle2 → s.blk.seqCnt = 1#16 → s.blk.seqPressed = true → s.port.btn = false →
        exec .step s = .next (s.answered interrupted .ok 0x0006#16))
      ∧ (s.blk.seq = .settle2 → s.blk.seqCnt = 1#16 → s.blk.seqPressed = true → s.port.btn = true →
        exec .step s = .next (s.answered
          { s.blk with wdgAck := reload, seqCnt := 0#16, seq := .waitRel } .ok 0#16))
      ∧ (s.blk.seq = .waitRel → s.port.btn = true →
        exec .step s = .next (s.answered { s.blk with wdgAck := reload } .ok 0#16))
      ∧ (s.blk.seq = .waitRel → s.port.btn = false →
        exec .step s = .next (s.answered interrupted .ok 0x0006#16))

/-- The complete transition relation of `seq` (R214): an accepted start from `IDLE` by `TICK1S` or
`MOVE`, the phase order by `STEP`, and no other write of `seq`. -/
def Obligations.PhaseTransitionRelation : Prop :=
  ∀ (i : Instr) (s t : State), exec i s = .next t →
    t.blk.seq = s.blk.seq
      ∨ (s.blk.seq = .idle ∧ t.blk.seq = .settle1
          ∧ ((∃ wp bp, i = .tick1s wp bp) ∨ ∃ d, i = .move d))
      ∨ (i = .step
          ∧ ((s.blk.seq = .settle1 ∧ t.blk.seq = .travel)
            ∨ (s.blk.seq = .travel ∧ t.blk.seq = .settle2)
            ∨ (s.blk.seq = .settle2 ∧ t.blk.seq = .waitRel)
            ∨ (s.blk.seq = .settle2 ∧ t.blk.seq = .idle)
            ∨ (s.blk.seq = .waitRel ∧ t.blk.seq = .idle)))

/-- The length of an uninterrupted sequence (R194): counting `STEP`s after the start, power goes on at
`T_RELAY_SETTLE`, off at `T_RELAY_SETTLE + T_TRAVEL`, and the sequence ends `COMPLETED` at
`T_RELAY_SETTLE + T_TRAVEL + T_POST_SETTLE`. -/
def Obligations.UninterruptedSequenceLength : Prop :=
  ∀ (s : State) (n : Nat), Lawful s → s.blk.seq = .settle1 →
    s.blk.seqCnt = s.cfg.val.tRelaySettle →
    let t1 := s.cfg.val.tRelaySettle.toNat
    let t2 := (travelTime s.cfg.val s.blk.seqDir).toNat
    let t3 := s.cfg.val.tPostSettle.toNat
    n ≤ t1 + t2 + t3 →
    ∃ t, drive (List.replicate n (presentation .step false)) s = .next t
      ∧ (t.blk.drvPwr = true ↔ t1 ≤ n ∧ n < t1 + t2)
      ∧ (t.blk.seq = .idle ↔ n = t1 + t2 + t3)
      ∧ (n = t1 + t2 + t3 →
          t.blk.lastResult = .completed ∧ t.port.resp = some ⟨.ok, 0x0005#16⟩)

/-- The length of an interrupted sequence (R194), whatever the button does where it is not sampled: at
any levels during the settling delay, a press first seen at the `j`-th `STEP` of `TRAVEL` turns power off
at `STEP` `T_RELAY_SETTLE + j`; then, at any levels before the last `STEP` of the further settle delay,
the sequence ends `INTERRUPTED` at `STEP` `T_RELAY_SETTLE + j + T_POST_SETTLE` if the button is released
then (`held = 0`), else at the first later `STEP` with it released. -/
def Obligations.InterruptedSequenceLength : Prop :=
  ∀ (s : State) (settling after : List Bool) (j held : Nat), Lawful s → s.blk.seq = .settle1 →
    s.blk.seqCnt = s.cfg.val.tRelaySettle → settling.length = s.cfg.val.tRelaySettle.toNat →
    1 ≤ j → j ≤ (travelTime s.cfg.val s.blk.seqDir).toNat →
    after.length + 1 = s.cfg.val.tPostSettle.toNat →
    let t1 := s.cfg.val.tRelaySettle.toNat
    let last := t1 + j + s.cfg.val.tPostSettle.toNat + held
    let levels := settling ++ List.replicate (j - 1) false ++ [true] ++ after
      ++ List.replicate held true ++ [false]
    let run (n : Nat) := drive ((levels.take n).map (presentation .step)) s
    (∃ t, run (t1 + j - 1) = .next t ∧ t.blk.drvPwr = true)
      ∧ (∀ n, t1 + j ≤ n → n ≤ last →
          ∃ t, run n = .next t ∧ t.blk.drvPwr = false
            ∧ (t.blk.seq = .idle ↔ n = last)
            ∧ (n = last →
                t.blk.lastResult = .interrupted ∧ t.port.resp = some ⟨.ok, 0x0006#16⟩))

/-! ### Runs -/

/-- The watchdog without a refresh (R225, R226, R228): from an idle state the first `wdg_ack` `STEP`s
only count down, and the next one resets the block. -/
def Obligations.UnrefreshedWatchdogResets : Prop :=
  ∀ (s : State) (btn : Bool), s.blk.seq = .idle →
    (∀ n ≤ s.blk.wdgAck.toNat,
      ∃ t, drive (List.replicate n (presentation .step btn)) s = .next t
        ∧ t.blk = { s.blk with wdgAck := BitVec.ofNat 16 (s.blk.wdgAck.toNat - n) })
      ∧ ∃ t, drive (List.replicate (s.blk.wdgAck.toNat + 1) (presentation .step btn)) s = .next t
        ∧ t.blk = (State.resetWith s.cfg).blk ∧ t.port.resp = some ⟨.ok, 0x0008#16⟩

/-- A fed watchdog never resets (R257, R226): from any lawful state, along any run of any words in which
the environment's watchdog obligation is met, no `STEP` reports a reset. -/
def Obligations.FedWatchdogNeverResets : Prop :=
  ∀ (is : List Input) (s : State) (left : Nat), Lawful s → left ≤ s.blk.wdgAck.toNat →
    watchdogFed left is s = true → ∀ a ∈ answers is s, reportsReset a = false

/-- One step of a fed watchdog (R225, R226, R257): where the block is lawful, the budget of idle `STEP`s is
at most the countdown, and the word on the port keeps to the budget, the next state is lawful, what is left
of the budget is at most the countdown there, and no reset is reported. -/
def Obligations.FedWatchdogStepKeepsTheBudget : Prop :=
  ∀ (s t : State) (left left' : Nat), Lawful s → left ≤ s.blk.wdgAck.toNat →
    budgetNext left s s.port.cmd = some left' → step s = .next t →
    Lawful t ∧ left' ≤ t.blk.wdgAck.toNat ∧ reportsReset (s.port.cmd, t.port.resp) = false

/-- Manual is absorbing (R32): the block resets to Auto, and a step takes it from Manual to Auto only by
the watchdog reset. -/
def Obligations.ManualIsAbsorbing : Prop :=
  (∀ p : LegalParams, (State.resetWith p).blk.isAuto = true)
    ∧ ∀ s t : State, step s = .next t → s.blk.isAuto = false → t.blk.isAuto = true →
        decode s.port.cmd = .ok .step ∧ s.blk.seq = .idle ∧ s.blk.wdgAck = 0#16
          ∧ t.blk = (State.resetWith s.cfg).blk

/-- No reset in mid-motion (R193, R226): a `STEP` that finds a sequence in progress reloads the countdown,
does not report a reset, and leaves the filter bank, the setpoint, its delay line, the minimum and the
flags as they were; and unless it ends the sequence (bit 2 of its data), so too the threshold, the record,
the mode, the timer and the alarm memory. -/
def Obligations.NoResetInMidMotion : Prop :=
  ∀ s t : State, s.blk.seq ≠ .idle → exec .step s = .next t →
    t.blk.wdgAck = s.cfg.val.wdgAckReload ∧ t.blk.filt = s.blk.filt ∧ t.blk.prev = s.blk.prev
      ∧ t.blk.setpoint = s.blk.setpoint ∧ t.blk.minimumSeen = s.blk.minimumSeen
      ∧ t.blk.alarmFlags = s.blk.alarmFlags ∧ t.blk.spD1 = s.blk.spD1 ∧ t.blk.spD2 = s.blk.spD2
      ∧ ∃ r, t.port.resp = some r ∧ r.status = .ok ∧ r.data.getLsbD 3 = false
        ∧ (r.data.getLsbD 2 = false →
            t.blk.threshold = s.blk.threshold ∧ t.blk.isDown = s.blk.isDown
              ∧ t.blk.isAuto = s.blk.isAuto ∧ t.blk.autoDownTimer = s.blk.autoDownTimer
              ∧ alarmMemoryOf t.blk = alarmMemoryOf s.blk)

/-- A water pre-alarm held for `WATER_ALM_TIME` consecutive evaluations (R174, R175, R187, R195 c):
starting Down and Auto with the count at 0, a raise is invoked at exactly the last of them, and when the
sequence has run the awning is Up and Auto, the timer is loaded and the alarm memory is clear. -/
def Obligations.HeldWaterPreAlarmRaisesTheAwning : Prop :=
  ∀ (s : State) (n : Nat), s.blk.seq = .idle → s.blk.isDown = true →
    s.blk.isAuto = true → s.blk.waterAlarmCount = 0#3 →
    s.blk.threshold = s.blk.filt[3] → s.blk.spD1 = s.blk.filt[3] → s.blk.spD2 = s.blk.filt[3] →
    ratioNow s.blk < s.blk.filt[3].toNat →
    let tick := presentation (.tick1s false false) false
    let w := s.cfg.val.waterAlmTime.toNat
    let len := s.cfg.val.tRelaySettle.toNat + s.cfg.val.tTravelUp.toNat
      + s.cfg.val.tPostSettle.toNat
    (n < w → ∃ t, drive (List.replicate n tick) s = .next t ∧ t.blk.seq = .idle
        ∧ t.blk.waterAlarmCount.toNat = n)
      ∧ (∃ t, drive (List.replicate w tick) s = .next t ∧ t.blk.seq = .settle1
        ∧ t.blk.seqCont = .raise ∧ t.port.resp = some ⟨.ok, 0x0015#16⟩)
      ∧ (∃ t, drive (List.replicate w tick ++ List.replicate len (presentation .step false)) s
            = .next t
        ∧ t.blk.isDown = false ∧ t.blk.isAuto = true
        ∧ t.blk.autoDownTimer = s.cfg.val.fourHours ∧ t.blk.seq = .idle
        ∧ t.blk.lastResult = .completed ∧ alarmMemoryOf t.blk = clearMemory)

/-- The machine's own run over the presentations on its port is the run that presents them one at a
time (R68; that the port holds them is the model's choice, log 3). -/
def Obligations.PortRunsItsPresentationsInOrder : Prop :=
  ∀ (s : State) (i : Input) (rest : List Input), s.port.pending = [] →
    Host.Core.run Sys2Proof.core (rest.length + 1)
        { s with port := { s.port with cmd := i.cmd, btn := i.btn, pending := rest } }
      = drive (i :: rest) s
end

