-- ==== Sys2Proof/Laws/State.lean ====
section
/-! SUPPORT. One lemma per field per named update of the state, each true by `rfl`: a proof about an
update cites these and unfolds nothing. -/

namespace Sys2Proof.Machine

/-! ### `refreshWatchdog` -/

@[simp] theorem refreshWatchdog_filt (p : Params) (b : Block) :
    (refreshWatchdog p b).filt = b.filt := rfl
@[simp] theorem refreshWatchdog_prev (p : Params) (b : Block) :
    (refreshWatchdog p b).prev = b.prev := rfl
@[simp] theorem refreshWatchdog_gt (p : Params) (b : Block) :
    (refreshWatchdog p b).gt = b.gt := rfl
@[simp] theorem refreshWatchdog_gnext (p : Params) (b : Block) :
    (refreshWatchdog p b).gnext = b.gnext := rfl
@[simp] theorem refreshWatchdog_threshold (p : Params) (b : Block) :
    (refreshWatchdog p b).threshold = b.threshold := rfl
@[simp] theorem refreshWatchdog_setpoint (p : Params) (b : Block) :
    (refreshWatchdog p b).setpoint = b.setpoint := rfl
@[simp] theorem refreshWatchdog_spD1 (p : Params) (b : Block) :
    (refreshWatchdog p b).spD1 = b.spD1 := rfl
@[simp] theorem refreshWatchdog_spD2 (p : Params) (b : Block) :
    (refreshWatchdog p b).spD2 = b.spD2 := rfl
@[simp] theorem refreshWatchdog_minimumSeen (p : Params) (b : Block) :
    (refreshWatchdog p b).minimumSeen = b.minimumSeen := rfl
@[simp] theorem refreshWatchdog_isDown (p : Params) (b : Block) :
    (refreshWatchdog p b).isDown = b.isDown := rfl
@[simp] theorem refreshWatchdog_isAuto (p : Params) (b : Block) :
    (refreshWatchdog p b).isAuto = b.isAuto := rfl
@[simp] theorem refreshWatchdog_autoDownTimer (p : Params) (b : Block) :
    (refreshWatchdog p b).autoDownTimer = b.autoDownTimer := rfl
@[simp] theorem refreshWatchdog_waterAlarmCount (p : Params) (b : Block) :
    (refreshWatchdog p b).waterAlarmCount = b.waterAlarmCount := rfl
@[simp] theorem refreshWatchdog_alarmFlags (p : Params) (b : Block) :
    (refreshWatchdog p b).alarmFlags = b.alarmFlags := rfl
@[simp] theorem refreshWatchdog_seq (p : Params) (b : Block) :
    (refreshWatchdog p b).seq = b.seq := rfl
@[simp] theorem refreshWatchdog_seqCnt (p : Params) (b : Block) :
    (refreshWatchdog p b).seqCnt = b.seqCnt := rfl
@[simp] theorem refreshWatchdog_seqDir (p : Params) (b : Block) :
    (refreshWatchdog p b).seqDir = b.seqDir := rfl
@[simp] theorem refreshWatchdog_seqPressed (p : Params) (b : Block) :
    (refreshWatchdog p b).seqPressed = b.seqPressed := rfl
@[simp] theorem refreshWatchdog_seqCont (p : Params) (b : Block) :
    (refreshWatchdog p b).seqCont = b.seqCont := rfl
@[simp] theorem refreshWatchdog_lastResult (p : Params) (b : Block) :
    (refreshWatchdog p b).lastResult = b.lastResult := rfl
@[simp] theorem refreshWatchdog_rlyAuto (p : Params) (b : Block) :
    (refreshWatchdog p b).rlyAuto = b.rlyAuto := rfl
@[simp] theorem refreshWatchdog_rlyDir (p : Params) (b : Block) :
    (refreshWatchdog p b).rlyDir = b.rlyDir := rfl
@[simp] theorem refreshWatchdog_drvPwr (p : Params) (b : Block) :
    (refreshWatchdog p b).drvPwr = b.drvPwr := rfl
@[simp] theorem refreshWatchdog_wdgAck (p : Params) (b : Block) :
    (refreshWatchdog p b).wdgAck = p.wdgAckReload := rfl

/-! ### `clearAlarmMemory` -/

@[simp] theorem clearAlarmMemory_filt (b : Block) :
    (clearAlarmMemory b).filt = b.filt := rfl
@[simp] theorem clearAlarmMemory_prev (b : Block) :
    (clearAlarmMemory b).prev = b.prev := rfl
@[simp] theorem clearAlarmMemory_gt (b : Block) :
    (clearAlarmMemory b).gt = Vector.replicate 16 0#16 := rfl
@[simp] theorem clearAlarmMemory_gnext (b : Block) :
    (clearAlarmMemory b).gnext = 0 := rfl
@[simp] theorem clearAlarmMemory_threshold (b : Block) :
    (clearAlarmMemory b).threshold = b.threshold := rfl
@[simp] theorem clearAlarmMemory_setpoint (b : Block) :
    (clearAlarmMemory b).setpoint = b.setpoint := rfl
@[simp] theorem clearAlarmMemory_spD1 (b : Block) :
    (clearAlarmMemory b).spD1 = b.spD1 := rfl
@[simp] theorem clearAlarmMemory_spD2 (b : Block) :
    (clearAlarmMemory b).spD2 = b.spD2 := rfl
@[simp] theorem clearAlarmMemory_minimumSeen (b : Block) :
    (clearAlarmMemory b).minimumSeen = b.minimumSeen := rfl
@[simp] theorem clearAlarmMemory_isDown (b : Block) :
    (clearAlarmMemory b).isDown = b.isDown := rfl
@[simp] theorem clearAlarmMemory_isAuto (b : Block) :
    (clearAlarmMemory b).isAuto = b.isAuto := rfl
@[simp] theorem clearAlarmMemory_autoDownTimer (b : Block) :
    (clearAlarmMemory b).autoDownTimer = b.autoDownTimer := rfl
@[simp] theorem clearAlarmMemory_waterAlarmCount (b : Block) :
    (clearAlarmMemory b).waterAlarmCount = 0#3 := rfl
@[simp] theorem clearAlarmMemory_alarmFlags (b : Block) :
    (clearAlarmMemory b).alarmFlags = b.alarmFlags := rfl
@[simp] theorem clearAlarmMemory_seq (b : Block) :
    (clearAlarmMemory b).seq = b.seq := rfl
@[simp] theorem clearAlarmMemory_seqCnt (b : Block) :
    (clearAlarmMemory b).seqCnt = b.seqCnt := rfl
@[simp] theorem clearAlarmMemory_seqDir (b : Block) :
    (clearAlarmMemory b).seqDir = b.seqDir := rfl
@[simp] theorem clearAlarmMemory_seqPressed (b : Block) :
    (clearAlarmMemory b).seqPressed = b.seqPressed := rfl
@[simp] theorem clearAlarmMemory_seqCont (b : Block) :
    (clearAlarmMemory b).seqCont = b.seqCont := rfl
@[simp] theorem clearAlarmMemory_lastResult (b : Block) :
    (clearAlarmMemory b).lastResult = b.lastResult := rfl
@[simp] theorem clearAlarmMemory_rlyAuto (b : Block) :
    (clearAlarmMemory b).rlyAuto = b.rlyAuto := rfl
@[simp] theorem clearAlarmMemory_rlyDir (b : Block) :
    (clearAlarmMemory b).rlyDir = b.rlyDir := rfl
@[simp] theorem clearAlarmMemory_drvPwr (b : Block) :
    (clearAlarmMemory b).drvPwr = b.drvPwr := rfl
@[simp] theorem clearAlarmMemory_wdgAck (b : Block) :
    (clearAlarmMemory b).wdgAck = b.wdgAck := rfl

/-! ### `withoutFilterBank` -/

@[simp] theorem withoutFilterBank_filt (b : Block) :
    (withoutFilterBank b).filt = Vector.replicate 4 0#16 := rfl
@[simp] theorem withoutFilterBank_prev (b : Block) :
    (withoutFilterBank b).prev = Vector.replicate 2 0#16 := rfl
@[simp] theorem withoutFilterBank_gt (b : Block) :
    (withoutFilterBank b).gt = b.gt := rfl
@[simp] theorem withoutFilterBank_gnext (b : Block) :
    (withoutFilterBank b).gnext = b.gnext := rfl
@[simp] theorem withoutFilterBank_threshold (b : Block) :
    (withoutFilterBank b).threshold = b.threshold := rfl
@[simp] theorem withoutFilterBank_setpoint (b : Block) :
    (withoutFilterBank b).setpoint = b.setpoint := rfl
@[simp] theorem withoutFilterBank_spD1 (b : Block) :
    (withoutFilterBank b).spD1 = b.spD1 := rfl
@[simp] theorem withoutFilterBank_spD2 (b : Block) :
    (withoutFilterBank b).spD2 = b.spD2 := rfl
@[simp] theorem withoutFilterBank_minimumSeen (b : Block) :
    (withoutFilterBank b).minimumSeen = b.minimumSeen := rfl
@[simp] theorem withoutFilterBank_isDown (b : Block) :
    (withoutFilterBank b).isDown = b.isDown := rfl
@[simp] theorem withoutFilterBank_isAuto (b : Block) :
    (withoutFilterBank b).isAuto = b.isAuto := rfl
@[simp] theorem withoutFilterBank_autoDownTimer (b : Block) :
    (withoutFilterBank b).autoDownTimer = b.autoDownTimer := rfl
@[simp] theorem withoutFilterBank_waterAlarmCount (b : Block) :
    (withoutFilterBank b).waterAlarmCount = b.waterAlarmCount := rfl
@[simp] theorem withoutFilterBank_alarmFlags (b : Block) :
    (withoutFilterBank b).alarmFlags = b.alarmFlags := rfl
@[simp] theorem withoutFilterBank_seq (b : Block) :
    (withoutFilterBank b).seq = b.seq := rfl
@[simp] theorem withoutFilterBank_seqCnt (b : Block) :
    (withoutFilterBank b).seqCnt = b.seqCnt := rfl
@[simp] theorem withoutFilterBank_seqDir (b : Block) :
    (withoutFilterBank b).seqDir = b.seqDir := rfl
@[simp] theorem withoutFilterBank_seqPressed (b : Block) :
    (withoutFilterBank b).seqPressed = b.seqPressed := rfl
@[simp] theorem withoutFilterBank_seqCont (b : Block) :
    (withoutFilterBank b).seqCont = b.seqCont := rfl
@[simp] theorem withoutFilterBank_lastResult (b : Block) :
    (withoutFilterBank b).lastResult = b.lastResult := rfl
@[simp] theorem withoutFilterBank_rlyAuto (b : Block) :
    (withoutFilterBank b).rlyAuto = b.rlyAuto := rfl
@[simp] theorem withoutFilterBank_rlyDir (b : Block) :
    (withoutFilterBank b).rlyDir = b.rlyDir := rfl
@[simp] theorem withoutFilterBank_drvPwr (b : Block) :
    (withoutFilterBank b).drvPwr = b.drvPwr := rfl
@[simp] theorem withoutFilterBank_wdgAck (b : Block) :
    (withoutFilterBank b).wdgAck = b.wdgAck := rfl

/-! ### `writeFilt` -/

@[simp] theorem writeFilt_filt (b : Block) (ch : Channel) (v : U16) :
    (writeFilt b ch v).filt = b.filt.set (channelIndex ch) v := rfl
@[simp] theorem writeFilt_prev (b : Block) (ch : Channel) (v : U16) :
    (writeFilt b ch v).prev = b.prev := rfl
@[simp] theorem writeFilt_gt (b : Block) (ch : Channel) (v : U16) :
    (writeFilt b ch v).gt = b.gt := rfl
@[simp] theorem writeFilt_gnext (b : Block) (ch : Channel) (v : U16) :
    (writeFilt b ch v).gnext = b.gnext := rfl
@[simp] theorem writeFilt_threshold (b : Block) (ch : Channel) (v : U16) :
    (writeFilt b ch v).threshold = b.threshold := rfl
@[simp] theorem writeFilt_setpoint (b : Block) (ch : Channel) (v : U16) :
    (writeFilt b ch v).setpoint = b.setpoint := rfl
@[simp] theorem writeFilt_spD1 (b : Block) (ch : Channel) (v : U16) :
    (writeFilt b ch v).spD1 = b.spD1 := rfl
@[simp] theorem writeFilt_spD2 (b : Block) (ch : Channel) (v : U16) :
    (writeFilt b ch v).spD2 = b.spD2 := rfl
@[simp] theorem writeFilt_minimumSeen (b : Block) (ch : Channel) (v : U16) :
    (writeFilt b ch v).minimumSeen = b.minimumSeen := rfl
@[simp] theorem writeFilt_isDown (b : Block) (ch : Channel) (v : U16) :
    (writeFilt b ch v).isDown = b.isDown := rfl
@[simp] theorem writeFilt_isAuto (b : Block) (ch : Channel) (v : U16) :
    (writeFilt b ch v).isAuto = b.isAuto := rfl
@[simp] theorem writeFilt_autoDownTimer (b : Block) (ch : Channel) (v : U16) :
    (writeFilt b ch v).autoDownTimer = b.autoDownTimer := rfl
@[simp] theorem writeFilt_waterAlarmCount (b : Block) (ch : Channel) (v : U16) :
    (writeFilt b ch v).waterAlarmCount = b.waterAlarmCount := rfl
@[simp] theorem writeFilt_alarmFlags (b : Block) (ch : Channel) (v : U16) :
    (writeFilt b ch v).alarmFlags = b.alarmFlags := rfl
@[simp] theorem writeFilt_seq (b : Block) (ch : Channel) (v : U16) :
    (writeFilt b ch v).seq = b.seq := rfl
@[simp] theorem writeFilt_seqCnt (b : Block) (ch : Channel) (v : U16) :
    (writeFilt b ch v).seqCnt = b.seqCnt := rfl
@[simp] theorem writeFilt_seqDir (b : Block) (ch : Channel) (v : U16) :
    (writeFilt b ch v).seqDir = b.seqDir := rfl
@[simp] theorem writeFilt_seqPressed (b : Block) (ch : Channel) (v : U16) :
    (writeFilt b ch v).seqPressed = b.seqPressed := rfl
@[simp] theorem writeFilt_seqCont (b : Block) (ch : Channel) (v : U16) :
    (writeFilt b ch v).seqCont = b.seqCont := rfl
@[simp] theorem writeFilt_lastResult (b : Block) (ch : Channel) (v : U16) :
    (writeFilt b ch v).lastResult = b.lastResult := rfl
@[simp] theorem writeFilt_rlyAuto (b : Block) (ch : Channel) (v : U16) :
    (writeFilt b ch v).rlyAuto = b.rlyAuto := rfl
@[simp] theorem writeFilt_rlyDir (b : Block) (ch : Channel) (v : U16) :
    (writeFilt b ch v).rlyDir = b.rlyDir := rfl
@[simp] theorem writeFilt_drvPwr (b : Block) (ch : Channel) (v : U16) :
    (writeFilt b ch v).drvPwr = b.drvPwr := rfl
@[simp] theorem writeFilt_wdgAck (b : Block) (ch : Channel) (v : U16) :
    (writeFilt b ch v).wdgAck = b.wdgAck := rfl

/-! ### `writePrev` -/

@[simp] theorem writePrev_filt (b : Block) (i : Fin 2) (v : U16) :
    (writePrev b i v).filt = b.filt := rfl
@[simp] theorem writePrev_prev (b : Block) (i : Fin 2) (v : U16) :
    (writePrev b i v).prev = b.prev.set i v := rfl
@[simp] theorem writePrev_gt (b : Block) (i : Fin 2) (v : U16) :
    (writePrev b i v).gt = b.gt := rfl
@[simp] theorem writePrev_gnext (b : Block) (i : Fin 2) (v : U16) :
    (writePrev b i v).gnext = b.gnext := rfl
@[simp] theorem writePrev_threshold (b : Block) (i : Fin 2) (v : U16) :
    (writePrev b i v).threshold = b.threshold := rfl
@[simp] theorem writePrev_setpoint (b : Block) (i : Fin 2) (v : U16) :
    (writePrev b i v).setpoint = b.setpoint := rfl
@[simp] theorem writePrev_spD1 (b : Block) (i : Fin 2) (v : U16) :
    (writePrev b i v).spD1 = b.spD1 := rfl
@[simp] theorem writePrev_spD2 (b : Block) (i : Fin 2) (v : U16) :
    (writePrev b i v).spD2 = b.spD2 := rfl
@[simp] theorem writePrev_minimumSeen (b : Block) (i : Fin 2) (v : U16) :
    (writePrev b i v).minimumSeen = b.minimumSeen := rfl
@[simp] theorem writePrev_isDown (b : Block) (i : Fin 2) (v : U16) :
    (writePrev b i v).isDown = b.isDown := rfl
@[simp] theorem writePrev_isAuto (b : Block) (i : Fin 2) (v : U16) :
    (writePrev b i v).isAuto = b.isAuto := rfl
@[simp] theorem writePrev_autoDownTimer (b : Block) (i : Fin 2) (v : U16) :
    (writePrev b i v).autoDownTimer = b.autoDownTimer := rfl
@[simp] theorem writePrev_waterAlarmCount (b : Block) (i : Fin 2) (v : U16) :
    (writePrev b i v).waterAlarmCount = b.waterAlarmCount := rfl
@[simp] theorem writePrev_alarmFlags (b : Block) (i : Fin 2) (v : U16) :
    (writePrev b i v).alarmFlags = b.alarmFlags := rfl
@[simp] theorem writePrev_seq (b : Block) (i : Fin 2) (v : U16) :
    (writePrev b i v).seq = b.seq := rfl
@[simp] theorem writePrev_seqCnt (b : Block) (i : Fin 2) (v : U16) :
    (writePrev b i v).seqCnt = b.seqCnt := rfl
@[simp] theorem writePrev_seqDir (b : Block) (i : Fin 2) (v : U16) :
    (writePrev b i v).seqDir = b.seqDir := rfl
@[simp] theorem writePrev_seqPressed (b : Block) (i : Fin 2) (v : U16) :
    (writePrev b i v).seqPressed = b.seqPressed := rfl
@[simp] theorem writePrev_seqCont (b : Block) (i : Fin 2) (v : U16) :
    (writePrev b i v).seqCont = b.seqCont := rfl
@[simp] theorem writePrev_lastResult (b : Block) (i : Fin 2) (v : U16) :
    (writePrev b i v).lastResult = b.lastResult := rfl
@[simp] theorem writePrev_rlyAuto (b : Block) (i : Fin 2) (v : U16) :
    (writePrev b i v).rlyAuto = b.rlyAuto := rfl
@[simp] theorem writePrev_rlyDir (b : Block) (i : Fin 2) (v : U16) :
    (writePrev b i v).rlyDir = b.rlyDir := rfl
@[simp] theorem writePrev_drvPwr (b : Block) (i : Fin 2) (v : U16) :
    (writePrev b i v).drvPwr = b.drvPwr := rfl
@[simp] theorem writePrev_wdgAck (b : Block) (i : Fin 2) (v : U16) :
    (writePrev b i v).wdgAck = b.wdgAck := rfl

/-! ### `storeEvent` -/

@[simp] theorem storeEvent_filt (p : Params) (i : Fin 16) (b : Block) :
    (storeEvent p i b).filt = b.filt := rfl
@[simp] theorem storeEvent_prev (p : Params) (i : Fin 16) (b : Block) :
    (storeEvent p i b).prev = b.prev := rfl
@[simp] theorem storeEvent_gt (p : Params) (i : Fin 16) (b : Block) :
    (storeEvent p i b).gt = b.gt.set i p.gustWindow := rfl
@[simp] theorem storeEvent_gnext (p : Params) (i : Fin 16) (b : Block) :
    (storeEvent p i b).gnext = Fin.ofNat 16 ((i.val + 1) % p.k) := rfl
@[simp] theorem storeEvent_threshold (p : Params) (i : Fin 16) (b : Block) :
    (storeEvent p i b).threshold = b.threshold := rfl
@[simp] theorem storeEvent_setpoint (p : Params) (i : Fin 16) (b : Block) :
    (storeEvent p i b).setpoint = b.setpoint := rfl
@[simp] theorem storeEvent_spD1 (p : Params) (i : Fin 16) (b : Block) :
    (storeEvent p i b).spD1 = b.spD1 := rfl
@[simp] theorem storeEvent_spD2 (p : Params) (i : Fin 16) (b : Block) :
    (storeEvent p i b).spD2 = b.spD2 := rfl
@[simp] theorem storeEvent_minimumSeen (p : Params) (i : Fin 16) (b : Block) :
    (storeEvent p i b).minimumSeen = b.minimumSeen := rfl
@[simp] theorem storeEvent_isDown (p : Params) (i : Fin 16) (b : Block) :
    (storeEvent p i b).isDown = b.isDown := rfl
@[simp] theorem storeEvent_isAuto (p : Params) (i : Fin 16) (b : Block) :
    (storeEvent p i b).isAuto = b.isAuto := rfl
@[simp] theorem storeEvent_autoDownTimer (p : Params) (i : Fin 16) (b : Block) :
    (storeEvent p i b).autoDownTimer = b.autoDownTimer := rfl
@[simp] theorem storeEvent_waterAlarmCount (p : Params) (i : Fin 16) (b : Block) :
    (storeEvent p i b).waterAlarmCount = b.waterAlarmCount := rfl
@[simp] theorem storeEvent_alarmFlags (p : Params) (i : Fin 16) (b : Block) :
    (storeEvent p i b).alarmFlags = b.alarmFlags := rfl
@[simp] theorem storeEvent_seq (p : Params) (i : Fin 16) (b : Block) :
    (storeEvent p i b).seq = b.seq := rfl
@[simp] theorem storeEvent_seqCnt (p : Params) (i : Fin 16) (b : Block) :
    (storeEvent p i b).seqCnt = b.seqCnt := rfl
@[simp] theorem storeEvent_seqDir (p : Params) (i : Fin 16) (b : Block) :
    (storeEvent p i b).seqDir = b.seqDir := rfl
@[simp] theorem storeEvent_seqPressed (p : Params) (i : Fin 16) (b : Block) :
    (storeEvent p i b).seqPressed = b.seqPressed := rfl
@[simp] theorem storeEvent_seqCont (p : Params) (i : Fin 16) (b : Block) :
    (storeEvent p i b).seqCont = b.seqCont := rfl
@[simp] theorem storeEvent_lastResult (p : Params) (i : Fin 16) (b : Block) :
    (storeEvent p i b).lastResult = b.lastResult := rfl
@[simp] theorem storeEvent_rlyAuto (p : Params) (i : Fin 16) (b : Block) :
    (storeEvent p i b).rlyAuto = b.rlyAuto := rfl
@[simp] theorem storeEvent_rlyDir (p : Params) (i : Fin 16) (b : Block) :
    (storeEvent p i b).rlyDir = b.rlyDir := rfl
@[simp] theorem storeEvent_drvPwr (p : Params) (i : Fin 16) (b : Block) :
    (storeEvent p i b).drvPwr = b.drvPwr := rfl
@[simp] theorem storeEvent_wdgAck (p : Params) (i : Fin 16) (b : Block) :
    (storeEvent p i b).wdgAck = b.wdgAck := rfl

/-! ### `fallBackToManual` -/

@[simp] theorem fallBackToManual_filt (p : Params) (b : Block) :
    (fallBackToManual p b).filt = b.filt := rfl
@[simp] theorem fallBackToManual_prev (p : Params) (b : Block) :
    (fallBackToManual p b).prev = b.prev := rfl
@[simp] theorem fallBackToManual_gt (p : Params) (b : Block) :
    (fallBackToManual p b).gt = Vector.replicate 16 0#16 := rfl
@[simp] theorem fallBackToManual_gnext (p : Params) (b : Block) :
    (fallBackToManual p b).gnext = 0 := rfl
@[simp] theorem fallBackToManual_threshold (p : Params) (b : Block) :
    (fallBackToManual p b).threshold = fallbackThreshold p b := rfl
@[simp] theorem fallBackToManual_setpoint (p : Params) (b : Block) :
    (fallBackToManual p b).setpoint = b.setpoint := rfl
@[simp] theorem fallBackToManual_spD1 (p : Params) (b : Block) :
    (fallBackToManual p b).spD1 = b.spD1 := rfl
@[simp] theorem fallBackToManual_spD2 (p : Params) (b : Block) :
    (fallBackToManual p b).spD2 = b.spD2 := rfl
@[simp] theorem fallBackToManual_minimumSeen (p : Params) (b : Block) :
    (fallBackToManual p b).minimumSeen = b.minimumSeen := rfl
@[simp] theorem fallBackToManual_isDown (p : Params) (b : Block) :
    (fallBackToManual p b).isDown = true := rfl
@[simp] theorem fallBackToManual_isAuto (p : Params) (b : Block) :
    (fallBackToManual p b).isAuto = false := rfl
@[simp] theorem fallBackToManual_autoDownTimer (p : Params) (b : Block) :
    (fallBackToManual p b).autoDownTimer = b.autoDownTimer := rfl
@[simp] theorem fallBackToManual_waterAlarmCount (p : Params) (b : Block) :
    (fallBackToManual p b).waterAlarmCount = 0#3 := rfl
@[simp] theorem fallBackToManual_alarmFlags (p : Params) (b : Block) :
    (fallBackToManual p b).alarmFlags = b.alarmFlags := rfl
@[simp] theorem fallBackToManual_seq (p : Params) (b : Block) :
    (fallBackToManual p b).seq = b.seq := rfl
@[simp] theorem fallBackToManual_seqCnt (p : Params) (b : Block) :
    (fallBackToManual p b).seqCnt = b.seqCnt := rfl
@[simp] theorem fallBackToManual_seqDir (p : Params) (b : Block) :
    (fallBackToManual p b).seqDir = b.seqDir := rfl
@[simp] theorem fallBackToManual_seqPressed (p : Params) (b : Block) :
    (fallBackToManual p b).seqPressed = b.seqPressed := rfl
@[simp] theorem fallBackToManual_seqCont (p : Params) (b : Block) :
    (fallBackToManual p b).seqCont = b.seqCont := rfl
@[simp] theorem fallBackToManual_lastResult (p : Params) (b : Block) :
    (fallBackToManual p b).lastResult = b.lastResult := rfl
@[simp] theorem fallBackToManual_rlyAuto (p : Params) (b : Block) :
    (fallBackToManual p b).rlyAuto = b.rlyAuto := rfl
@[simp] theorem fallBackToManual_rlyDir (p : Params) (b : Block) :
    (fallBackToManual p b).rlyDir = b.rlyDir := rfl
@[simp] theorem fallBackToManual_drvPwr (p : Params) (b : Block) :
    (fallBackToManual p b).drvPwr = b.drvPwr := rfl
@[simp] theorem fallBackToManual_wdgAck (p : Params) (b : Block) :
    (fallBackToManual p b).wdgAck = b.wdgAck := rfl

/-! ### `endSequence` -/

@[simp] theorem endSequence_filt (res : ActResult) (b : Block) :
    (endSequence res b).filt = b.filt := rfl
@[simp] theorem endSequence_prev (res : ActResult) (b : Block) :
    (endSequence res b).prev = b.prev := rfl
@[simp] theorem endSequence_gt (res : ActResult) (b : Block) :
    (endSequence res b).gt = b.gt := rfl
@[simp] theorem endSequence_gnext (res : ActResult) (b : Block) :
    (endSequence res b).gnext = b.gnext := rfl
@[simp] theorem endSequence_threshold (res : ActResult) (b : Block) :
    (endSequence res b).threshold = b.threshold := rfl
@[simp] theorem endSequence_setpoint (res : ActResult) (b : Block) :
    (endSequence res b).setpoint = b.setpoint := rfl
@[simp] theorem endSequence_spD1 (res : ActResult) (b : Block) :
    (endSequence res b).spD1 = b.spD1 := rfl
@[simp] theorem endSequence_spD2 (res : ActResult) (b : Block) :
    (endSequence res b).spD2 = b.spD2 := rfl
@[simp] theorem endSequence_minimumSeen (res : ActResult) (b : Block) :
    (endSequence res b).minimumSeen = b.minimumSeen := rfl
@[simp] theorem endSequence_isDown (res : ActResult) (b : Block) :
    (endSequence res b).isDown = b.isDown := rfl
@[simp] theorem endSequence_isAuto (res : ActResult) (b : Block) :
    (endSequence res b).isAuto = b.isAuto := rfl
@[simp] theorem endSequence_autoDownTimer (res : ActResult) (b : Block) :
    (endSequence res b).autoDownTimer = b.autoDownTimer := rfl
@[simp] theorem endSequence_waterAlarmCount (res : ActResult) (b : Block) :
    (endSequence res b).waterAlarmCount = b.waterAlarmCount := rfl
@[simp] theorem endSequence_alarmFlags (res : ActResult) (b : Block) :
    (endSequence res b).alarmFlags = b.alarmFlags := rfl
@[simp] theorem endSequence_seq (res : ActResult) (b : Block) :
    (endSequence res b).seq = .idle := rfl
@[simp] theorem endSequence_seqCnt (res : ActResult) (b : Block) :
    (endSequence res b).seqCnt = 0#16 := rfl
@[simp] theorem endSequence_seqDir (res : ActResult) (b : Block) :
    (endSequence res b).seqDir = .down := rfl
@[simp] theorem endSequence_seqPressed (res : ActResult) (b : Block) :
    (endSequence res b).seqPressed = false := rfl
@[simp] theorem endSequence_seqCont (res : ActResult) (b : Block) :
    (endSequence res b).seqCont = .none := rfl
@[simp] theorem endSequence_lastResult (res : ActResult) (b : Block) :
    (endSequence res b).lastResult = res := rfl
@[simp] theorem endSequence_rlyAuto (res : ActResult) (b : Block) :
    (endSequence res b).rlyAuto = false := rfl
@[simp] theorem endSequence_rlyDir (res : ActResult) (b : Block) :
    (endSequence res b).rlyDir = false := rfl
@[simp] theorem endSequence_drvPwr (res : ActResult) (b : Block) :
    (endSequence res b).drvPwr = false := rfl
@[simp] theorem endSequence_wdgAck (res : ActResult) (b : Block) :
    (endSequence res b).wdgAck = b.wdgAck := rfl

/-! ### `beginSequence` -/

@[simp] theorem beginSequence_filt (p : Params) (dir : Direction) (cont : Sys2Proof.Machine.Cont) (b : Block) :
    (beginSequence p dir cont b).filt = b.filt := rfl
@[simp] theorem beginSequence_prev (p : Params) (dir : Direction) (cont : Sys2Proof.Machine.Cont) (b : Block) :
    (beginSequence p dir cont b).prev = b.prev := rfl
@[simp] theorem beginSequence_gt (p : Params) (dir : Direction) (cont : Sys2Proof.Machine.Cont) (b : Block) :
    (beginSequence p dir cont b).gt = b.gt := rfl
@[simp] theorem beginSequence_gnext (p : Params) (dir : Direction) (cont : Sys2Proof.Machine.Cont) (b : Block) :
    (beginSequence p dir cont b).gnext = b.gnext := rfl
@[simp] theorem beginSequence_threshold (p : Params) (dir : Direction) (cont : Sys2Proof.Machine.Cont) (b : Block) :
    (beginSequence p dir cont b).threshold = b.threshold := rfl
@[simp] theorem beginSequence_setpoint (p : Params) (dir : Direction) (cont : Sys2Proof.Machine.Cont) (b : Block) :
    (beginSequence p dir cont b).setpoint = b.setpoint := rfl
@[simp] theorem beginSequence_spD1 (p : Params) (dir : Direction) (cont : Sys2Proof.Machine.Cont) (b : Block) :
    (beginSequence p dir cont b).spD1 = b.spD1 := rfl
@[simp] theorem beginSequence_spD2 (p : Params) (dir : Direction) (cont : Sys2Proof.Machine.Cont) (b : Block) :
    (beginSequence p dir cont b).spD2 = b.spD2 := rfl
@[simp] theorem beginSequence_minimumSeen (p : Params) (dir : Direction) (cont : Sys2Proof.Machine.Cont) (b : Block) :
    (beginSequence p dir cont b).minimumSeen = b.minimumSeen := rfl
@[simp] theorem beginSequence_isDown (p : Params) (dir : Direction) (cont : Sys2Proof.Machine.Cont) (b : Block) :
    (beginSequence p dir cont b).isDown = b.isDown := rfl
@[simp] theorem beginSequence_isAuto (p : Params) (dir : Direction) (cont : Sys2Proof.Machine.Cont) (b : Block) :
    (beginSequence p dir cont b).isAuto = b.isAuto := rfl
@[simp] theorem beginSequence_autoDownTimer (p : Params) (dir : Direction) (cont : Sys2Proof.Machine.Cont) (b : Block) :
    (beginSequence p dir cont b).autoDownTimer = b.autoDownTimer := rfl
@[simp] theorem beginSequence_waterAlarmCount (p : Params) (dir : Direction) (cont : Sys2Proof.Machine.Cont) (b : Block) :
    (beginSequence p dir cont b).waterAlarmCount = b.waterAlarmCount := rfl
@[simp] theorem beginSequence_alarmFlags (p : Params) (dir : Direction) (cont : Sys2Proof.Machine.Cont) (b : Block) :
    (beginSequence p dir cont b).alarmFlags = b.alarmFlags := rfl
@[simp] theorem beginSequence_seq (p : Params) (dir : Direction) (cont : Sys2Proof.Machine.Cont) (b : Block) :
    (beginSequence p dir cont b).seq = .settle1 := rfl
@[simp] theorem beginSequence_seqCnt (p : Params) (dir : Direction) (cont : Sys2Proof.Machine.Cont) (b : Block) :
    (beginSequence p dir cont b).seqCnt = p.tRelaySettle := rfl
@[simp] theorem beginSequence_seqDir (p : Params) (dir : Direction) (cont : Sys2Proof.Machine.Cont) (b : Block) :
    (beginSequence p dir cont b).seqDir = dir := rfl
@[simp] theorem beginSequence_seqPressed (p : Params) (dir : Direction) (cont : Sys2Proof.Machine.Cont) (b : Block) :
    (beginSequence p dir cont b).seqPressed = false := rfl
@[simp] theorem beginSequence_seqCont (p : Params) (dir : Direction) (cont : Sys2Proof.Machine.Cont) (b : Block) :
    (beginSequence p dir cont b).seqCont = cont := rfl
@[simp] theorem beginSequence_lastResult (p : Params) (dir : Direction) (cont : Sys2Proof.Machine.Cont) (b : Block) :
    (beginSequence p dir cont b).lastResult = .none := rfl
@[simp] theorem beginSequence_rlyAuto (p : Params) (dir : Direction) (cont : Sys2Proof.Machine.Cont) (b : Block) :
    (beginSequence p dir cont b).rlyAuto = true := rfl
@[simp] theorem beginSequence_rlyDir (p : Params) (dir : Direction) (cont : Sys2Proof.Machine.Cont) (b : Block) :
    (beginSequence p dir cont b).rlyDir = directionLevel p dir := rfl
@[simp] theorem beginSequence_drvPwr (p : Params) (dir : Direction) (cont : Sys2Proof.Machine.Cont) (b : Block) :
    (beginSequence p dir cont b).drvPwr = b.drvPwr := rfl
@[simp] theorem beginSequence_wdgAck (p : Params) (dir : Direction) (cont : Sys2Proof.Machine.Cont) (b : Block) :
    (beginSequence p dir cont b).wdgAck = b.wdgAck := rfl

/-! ### `endTravel` -/

@[simp] theorem endTravel_filt (p : Params) (b : Block) :
    (endTravel p b).filt = b.filt := rfl
@[simp] theorem endTravel_prev (p : Params) (b : Block) :
    (endTravel p b).prev = b.prev := rfl
@[simp] theorem endTravel_gt (p : Params) (b : Block) :
    (endTravel p b).gt = b.gt := rfl
@[simp] theorem endTravel_gnext (p : Params) (b : Block) :
    (endTravel p b).gnext = b.gnext := rfl
@[simp] theorem endTravel_threshold (p : Params) (b : Block) :
    (endTravel p b).threshold = b.threshold := rfl
@[simp] theorem endTravel_setpoint (p : Params) (b : Block) :
    (endTravel p b).setpoint = b.setpoint := rfl
@[simp] theorem endTravel_spD1 (p : Params) (b : Block) :
    (endTravel p b).spD1 = b.spD1 := rfl
@[simp] theorem endTravel_spD2 (p : Params) (b : Block) :
    (endTravel p b).spD2 = b.spD2 := rfl
@[simp] theorem endTravel_minimumSeen (p : Params) (b : Block) :
    (endTravel p b).minimumSeen = b.minimumSeen := rfl
@[simp] theorem endTravel_isDown (p : Params) (b : Block) :
    (endTravel p b).isDown = b.isDown := rfl
@[simp] theorem endTravel_isAuto (p : Params) (b : Block) :
    (endTravel p b).isAuto = b.isAuto := rfl
@[simp] theorem endTravel_autoDownTimer (p : Params) (b : Block) :
    (endTravel p b).autoDownTimer = b.autoDownTimer := rfl
@[simp] theorem endTravel_waterAlarmCount (p : Params) (b : Block) :
    (endTravel p b).waterAlarmCount = b.waterAlarmCount := rfl
@[simp] theorem endTravel_alarmFlags (p : Params) (b : Block) :
    (endTravel p b).alarmFlags = b.alarmFlags := rfl
@[simp] theorem endTravel_seq (p : Params) (b : Block) :
    (endTravel p b).seq = .settle2 := rfl
@[simp] theorem endTravel_seqCnt (p : Params) (b : Block) :
    (endTravel p b).seqCnt = p.tPostSettle := rfl
@[simp] theorem endTravel_seqDir (p : Params) (b : Block) :
    (endTravel p b).seqDir = b.seqDir := rfl
@[simp] theorem endTravel_seqPressed (p : Params) (b : Block) :
    (endTravel p b).seqPressed = b.seqPressed := rfl
@[simp] theorem endTravel_seqCont (p : Params) (b : Block) :
    (endTravel p b).seqCont = b.seqCont := rfl
@[simp] theorem endTravel_lastResult (p : Params) (b : Block) :
    (endTravel p b).lastResult = b.lastResult := rfl
@[simp] theorem endTravel_rlyAuto (p : Params) (b : Block) :
    (endTravel p b).rlyAuto = b.rlyAuto := rfl
@[simp] theorem endTravel_rlyDir (p : Params) (b : Block) :
    (endTravel p b).rlyDir = b.rlyDir := rfl
@[simp] theorem endTravel_drvPwr (p : Params) (b : Block) :
    (endTravel p b).drvPwr = false := rfl
@[simp] theorem endTravel_wdgAck (p : Params) (b : Block) :
    (endTravel p b).wdgAck = b.wdgAck := rfl

/-! ### The machine's updates -/

@[simp] theorem State.answered_cfg (s : State) (b : Block) (st : Status) (d : U16) :
    (s.answered b st d).cfg = s.cfg := rfl
@[simp] theorem State.answered_blk (s : State) (b : Block) (st : Status) (d : U16) :
    (s.answered b st d).blk = b := rfl
@[simp] theorem State.answered_port_cmd (s : State) (b : Block) (st : Status) (d : U16) :
    (s.answered b st d).port.cmd = s.port.cmd := rfl
@[simp] theorem State.answered_port_btn (s : State) (b : Block) (st : Status) (d : U16) :
    (s.answered b st d).port.btn = s.port.btn := rfl
@[simp] theorem State.answered_port_pending (s : State) (b : Block) (st : Status) (d : U16) :
    (s.answered b st d).port.pending = s.port.pending := rfl
@[simp] theorem State.answered_port_resp (s : State) (b : Block) (st : Status) (d : U16) :
    (s.answered b st d).port.resp = some ⟨st, d⟩ := rfl

@[simp] theorem State.refuse_cfg (s : State) (st : Status) : (s.refuse st).cfg = s.cfg := rfl
@[simp] theorem State.refuse_blk (s : State) (st : Status) : (s.refuse st).blk = s.blk := rfl
@[simp] theorem State.refuse_port_cmd (s : State) (st : Status) :
    (s.refuse st).port.cmd = s.port.cmd := rfl
@[simp] theorem State.refuse_port_btn (s : State) (st : Status) :
    (s.refuse st).port.btn = s.port.btn := rfl
@[simp] theorem State.refuse_port_pending (s : State) (st : Status) :
    (s.refuse st).port.pending = s.port.pending := rfl
@[simp] theorem State.refuse_port_resp (s : State) (st : Status) :
    (s.refuse st).port.resp = some ⟨st, 0#16⟩ := rfl

@[simp] theorem State.advance_cfg (s : State) : s.advance.cfg = s.cfg := rfl
@[simp] theorem State.advance_blk (s : State) : s.advance.blk = s.blk := rfl
@[simp] theorem State.advance_port (s : State) : s.advance.port = s.port.advance := rfl

@[simp] theorem State.present_cfg (s : State) (i : Input) : (s.present i).cfg = s.cfg := rfl
@[simp] theorem State.present_blk (s : State) (i : Input) : (s.present i).blk = s.blk := rfl
@[simp] theorem State.present_port_cmd (s : State) (i : Input) : (s.present i).port.cmd = i.cmd := rfl
@[simp] theorem State.present_port_btn (s : State) (i : Input) : (s.present i).port.btn = i.btn := rfl
@[simp] theorem State.present_port_pending (s : State) (i : Input) :
    (s.present i).port.pending = s.port.pending := rfl
@[simp] theorem State.present_port_resp (s : State) (i : Input) :
    (s.present i).port.resp = s.port.resp := rfl

@[simp] theorem State.resetWith_cfg (p : LegalParams) : (State.resetWith p).cfg = p := rfl
@[simp] theorem State.resetWith_blk (p : LegalParams) :
    (State.resetWith p).blk = Block.reset p.val := rfl

@[simp] theorem State.withFetchWord_cfg (s : State) (n w : Nat) : (s.withFetchWord n w).cfg = s.cfg := rfl
@[simp] theorem State.withFetchWord_blk (s : State) (n w : Nat) : (s.withFetchWord n w).blk = s.blk := rfl
@[simp] theorem State.withFetchWord_port_cmd (s : State) (n w : Nat) :
    (s.withFetchWord n w).port.cmd = BitVec.ofNat 24 (w % 2 ^ n) := rfl
@[simp] theorem State.withFetchWord_port_btn (s : State) (n w : Nat) :
    (s.withFetchWord n w).port.btn = s.port.btn := rfl

/-! ### The port -/

/-- Advancing the port never touches the response that stands on it. -/
@[simp] theorem Port.advance_resp (q : Port) : q.advance.resp = q.resp := by
  unfold Port.advance
  split <;> rfl

theorem Port.advance_of_nil (q : Port) (h : q.pending = []) :
    q.advance = { q with cmd := Port.idleWord } := by
  simp [Port.advance, h]

theorem Port.advance_of_cons (q : Port) (i : Input) (rest : List Input) (h : q.pending = i :: rest) :
    q.advance = { q with cmd := i.cmd, btn := i.btn, pending := rest } := by
  simp [Port.advance, h]

end Sys2Proof.Machine
end

