-- ==== Sys2Proof/Laws/Ops.lean ====
section
/-! SUPPORT. For each shared operation, one lemma that says once everything it can do. A proof about
an instruction cites these and unfolds no callee. -/

namespace Sys2Proof.Machine

/-! ### Arithmetic -/

/-- `absdiff` on integers (R9). -/
theorem absdiff_toNat (a b : U16) : (absdiff a b).toNat = max a.toNat b.toNat - min a.toNat b.toNat := by
  unfold absdiff
  split <;> rename_i h
  · rw [BitVec.toNat_sub_of_le (BitVec.le_def.mpr h)]; omega
  · rw [BitVec.toNat_sub_of_le (BitVec.le_def.mpr (by omega))]; omega

/-- The saturating decrement of the auto-down timer on integers (R177). -/
theorem tickTimer_toNat (t : U16) : (tickTimer t).toNat = t.toNat - 1 := by
  unfold tickTimer
  split
  · simp_all
  · bv_omega

/-- The timer is at 0 after its decrement exactly when it was at most 1 before it. -/
theorem tickTimer_eq_zero_iff (t : U16) : tickTimer t = 0#16 ↔ t.toNat ≤ 1 := by
  rw [← BitVec.toNat_inj, tickTimer_toNat, BitVec.toNat_ofNat]
  omega

/-- In a timed phase that a run reaches the count is an ordinary decrement (R184). -/
theorem countedDown_of_ne (p : Params) (b : Block) (h : b.seqCnt ≠ 0#16) :
    countedDown p b = b.seqCnt - 1#16 := if_neg h

/-- The count reaches 0 exactly from 1 (R184), where it is not 0 already. -/
theorem countedDown_eq_zero_iff (p : Params) (b : Block) (h : b.seqCnt ≠ 0#16) :
    countedDown p b = 0#16 ↔ b.seqCnt = 1#16 := by
  rw [countedDown_of_ne p b h]
  constructor <;> intro e
  · bv_omega
  · simp [e]

/-- The count does not see the Filter Bank, its free value included (R70). -/
theorem countedDown_writeFilt (p : Params) (b : Block) (ch : Channel) (v : U16) :
    countedDown p (writeFilt b ch v) = countedDown p b := rfl

/-- Nor the previous samples. -/
theorem countedDown_writePrev (p : Params) (b : Block) (i : Fin 2) (v : U16) :
    countedDown p (writePrev b i v) = countedDown p b := rfl

/-- A `SAMPLE` writes nothing but what the Filter Bank owns (R23, R113). -/
theorem sampleBlock_withoutFilterBank (p : Params) (ch : Channel) (raw : U16) (b : Block) :
    withoutFilterBank (sampleBlock p ch raw b) = withoutFilterBank b := by
  cases ch <;> rfl

/-- The count on integers. -/
theorem countedDown_toNat (p : Params) (b : Block) (h : b.seqCnt ≠ 0#16) :
    (countedDown p b).toNat = b.seqCnt.toNat - 1 := by
  rw [countedDown_of_ne p b h]
  bv_omega

/-- A weighted mean times 32768 is at most the larger argument times 32768 (R114). -/
theorem iirAccumulator_le (y x a : Nat) (h : a ≤ 32768) :
    iirAccumulator y x a ≤ max y x * 32768 := by
  unfold iirAccumulator
  have hy : y * a ≤ max y x * a := Nat.mul_le_mul_right a (le_max_left y x)
  have hx : x * (32768 - a) ≤ max y x * (32768 - a) := Nat.mul_le_mul_right _ (le_max_right y x)
  have hs : max y x * a + max y x * (32768 - a) = max y x * 32768 := by
    rw [← Nat.mul_add]; congr 1; omega
  omega

/-- And at least the smaller one times 32768. -/
theorem le_iirAccumulator (y x a : Nat) (h : a ≤ 32768) :
    min y x * 32768 ≤ iirAccumulator y x a := by
  unfold iirAccumulator
  have hy : min y x * a ≤ y * a := Nat.mul_le_mul_right a (min_le_left y x)
  have hx : min y x * (32768 - a) ≤ x * (32768 - a) := Nat.mul_le_mul_right _ (min_le_right y x)
  have hs : min y x * a + min y x * (32768 - a) = min y x * 32768 := by
    rw [← Nat.mul_add]; congr 1; omega
  omega

/-- The running minimum on integers (R154). -/
theorem loweredMinimum_toNat (m : U16) (wd : Nat) : (loweredMinimum m wd).toNat = min m.toNat wd := by
  unfold loweredMinimum
  have := m.isLt
  rw [BitVec.toNat_ofNat, Nat.mod_eq_of_lt (by omega)]

/-- The midpoint on integers: each half is at most 32767, so nothing is lost (R154). -/
theorem midpoint_toNat (sp m : U16) : (midpoint sp m).toNat = sp.toNat / 2 + m.toNat / 2 := by
  unfold midpoint
  have := sp.isLt
  have := m.isLt
  rw [BitVec.toNat_add, BitVec.toNat_ushiftRight, BitVec.toNat_ushiftRight, Nat.shiftRight_eq_div_pow,
    Nat.shiftRight_eq_div_pow]
  omega

/-- The count of pre-alarms on integers (R174). -/
theorem countPreAlarm_toNat (p : Params) (w : Bool) (n : BitVec 3) :
    (countPreAlarm p w n).toNat = if w then min (n.toNat + 1) p.waterAlmTime.toNat else 0 := by
  unfold countPreAlarm
  have := p.waterAlmTime.isLt
  split
  · rw [BitVec.toNat_ofNat, Nat.mod_eq_of_lt (by omega)]
  · rfl

/-! ### The gust bank -/

/-- The ageing of one slot on integers (R131). -/
theorem ageTimers_getElem_toNat (k : Nat) (g : Bank) (i : Fin 16) :
    (ageTimers k g)[i].toNat = if i.val < k then g[i].toNat - 1 else g[i].toNat := by
  simp only [ageTimers, Fin.getElem_fin, Vector.getElem_ofFn]
  by_cases hk : i.val < k
  · by_cases hz : g[i.val] = 0#16
    · simp [hk, hz]
    · simp only [hk, ne_eq, hz, not_false_eq_true, and_self, if_true]
      bv_omega
  · simp [hk]

/-- The slot of a ring index, for a bank of at most 16 (R24). -/
theorem ringSlot_val (k : Nat) (gnext : Fin 16) (j : Nat) (h0 : 0 < k) (h16 : k ≤ 16) :
    (ringSlot k gnext j).val = (gnext.val + j) % k := by
  have := Nat.mod_lt (gnext.val + j) h0
  simp only [ringSlot, Fin.ofNat]
  omega

/-- A slot the search finds is free, is on the ring, and is the first one that is (R131). -/
theorem freeSlot_some (k : Nat) (g : Bank) (gnext i : Fin 16) (h : freeSlot k g gnext = some i) :
    g[i] = 0#16 ∧ ∃ j < k, i = ringSlot k gnext j ∧ ∀ j' < j, g[ringSlot k gnext j'] ≠ 0#16 := by
  unfold freeSlot at h
  obtain ⟨found, before, after, split, earlier⟩ := List.find?_eq_some_iff_append.mp h
  obtain ⟨first, tail, rsplit, hfirst, htail⟩ := List.map_eq_append_iff.mp split
  obtain ⟨j, last, tsplit, hj, hlast⟩ := List.map_eq_cons_iff.mp htail
  have hlen : first.length < k := by
    have := congrArg List.length rsplit
    simp [tsplit] at this
    omega
  have hidx : ∀ n (hn : n < first.length), first[n] = n := by
    intro n hn
    have same : (List.range k)[n]? = some n := List.getElem?_range (by omega)
    rw [rsplit, List.getElem?_append_left hn, List.getElem?_eq_getElem hn] at same
    exact Option.some.inj same
  have hjval : j = first.length := by
    have := congrArg (fun l => l[first.length]?) rsplit
    simp [tsplit, List.getElem?_range hlen] at this
    omega
  refine ⟨by simpa using found, j, by omega, hj.symm, fun j' hj' => ?_⟩
  have member : ringSlot k gnext j' ∈ before := by
    rw [← hfirst]
    refine List.mem_map_of_mem ?_
    have := List.getElem_mem (l := first) (n := j') (by omega)
    rwa [hidx j' (by omega)] at this
  simpa using earlier _ member

/-- A search that finds nothing saw no free slot on the ring. -/
theorem freeSlot_none (k : Nat) (g : Bank) (gnext : Fin 16) (h : freeSlot k g gnext = none) :
    ∀ j < k, g[ringSlot k gnext j] ≠ 0#16 := by
  intro j hj
  have := List.find?_eq_none.mp h (ringSlot k gnext j)
    (List.mem_map_of_mem (List.mem_range.mpr hj))
  simpa using this

/-- Everything `GUST` can do (R131, R132): only the bank and the ring pointer move, and it alarms
exactly when a pre-alarm finds `K` active timers after the ageing. -/
theorem gust_cases (p : Params) (windPre : Bool) (b : Block) :
    ((windPre = true ∧ p.k ≤ activeTimers p.k (ageTimers p.k b.gt))
        ∧ gust p windPre b = ({ b with gt := ageTimers p.k b.gt }, true))
      ∨ ((windPre = true ∧ ¬ p.k ≤ activeTimers p.k (ageTimers p.k b.gt))
        ∧ gust p windPre b = (allocateEvent p { b with gt := ageTimers p.k b.gt }, false))
      ∨ (windPre = false ∧ gust p windPre b = ({ b with gt := ageTimers p.k b.gt }, false)) := by
  unfold gust
  cases windPre
  · simp
  · by_cases h : p.k ≤ activeTimers p.k (ageTimers p.k b.gt) <;> simp [h]

/-- `GUST` moves the bank and the ring pointer and nothing else. -/
theorem gust_frame (p : Params) (windPre : Bool) (b : Block) :
    (gust p windPre b).1
      = { b with gt := (gust p windPre b).1.gt, gnext := (gust p windPre b).1.gnext } := by
  have store : ∀ c : Block, allocateEvent p c
      = { c with gt := (allocateEvent p c).gt, gnext := (allocateEvent p c).gnext } := by
    intro c
    unfold allocateEvent
    split <;> rfl
  rcases gust_cases p windPre b with ⟨-, h⟩ | ⟨-, h⟩ | ⟨-, h⟩ <;> rw [h]
  exact store _

/-! ### The water adapter -/

/-- `WATER` writes the threshold, the delay line and the minimum, and nothing else (R147). -/
theorem water_frame (p : Params) (m : Bool) (b : Block) :
    (water p m b).1
      = { b with threshold := (water p m b).1.threshold, setpoint := readFilt b .waterThresholdPot,
                 spD1 := readFilt b .waterThresholdPot, spD2 := b.spD1,
                 minimumSeen := (water p m b).1.minimumSeen } := by
  unfold water waterPolicy
  dsimp only
  split
  · split <;> rfl
  · split <;> rfl

/-- The pre-alarm compares with the threshold at entry (R148). -/
theorem water_pre (p : Params) (m : Bool) (b : Block) :
    (water p m b).2
      = decide (waterRatio (readFilt b .waterRef) (readFilt b .waterMeasure) < b.threshold.toNat) := rfl

/-! ### The actuator -/

/-- Everything a continuation can do (R187). -/
theorem applyCont_cases (p : Params) (cont : Sys2Proof.Machine.Cont) (res : ActResult) (b : Block) :
    (cont = .none ∧ applyCont p cont res b = b)
      ∨ (cont = .raise ∧ res = .completed
        ∧ applyCont p cont res b
          = clearAlarmMemory { b with isDown := false, autoDownTimer := p.fourHours })
      ∨ (cont = .lower ∧ res = .completed
        ∧ applyCont p cont res b = clearAlarmMemory { b with isDown := true })
      ∨ (cont ≠ .none ∧ res ≠ .completed ∧ applyCont p cont res b = fallBackToManual p b) := by
  cases cont <;> cases res <;> simp [applyCont]

/-- A continuation touches no sequencer element, no pin, no filter and not the watchdog. -/
theorem applyCont_frame (p : Params) (cont : Sys2Proof.Machine.Cont) (res : ActResult) (b : Block) :
    applyCont p cont res b
      = { b with isDown := (applyCont p cont res b).isDown, isAuto := (applyCont p cont res b).isAuto,
                 autoDownTimer := (applyCont p cont res b).autoDownTimer,
                 threshold := (applyCont p cont res b).threshold,
                 waterAlarmCount := (applyCont p cont res b).waterAlarmCount,
                 gt := (applyCont p cont res b).gt, gnext := (applyCont p cont res b).gnext } := by
  cases cont <;> cases res <;> rfl

/-- A start is refused exactly when the button is pressed (R180). -/
theorem startMove_cases (p : Params) (btn : Bool) (dir : Direction) (cont : Sys2Proof.Machine.Cont)
    (b : Block) :
    (btn = true ∧ startMove p btn dir cont b
        = applyCont p cont .interrupted { b with lastResult := .interrupted })
      ∨ (btn = false ∧ startMove p btn dir cont b = beginSequence p dir cont b) := by
  cases btn <;> simp [startMove, refuseStart]

/-- The end of a sequence leaves the sequencer idle and the pins released, with its result (R186). -/
theorem finish_sequencer (p : Params) (res : ActResult) (b : Block) :
    (finish p res b).seq = .idle ∧ (finish p res b).seqCnt = 0#16 ∧ (finish p res b).seqDir = .down
      ∧ (finish p res b).seqPressed = false ∧ (finish p res b).seqCont = .none
      ∧ (finish p res b).lastResult = res ∧ (finish p res b).rlyAuto = false
      ∧ (finish p res b).rlyDir = false ∧ (finish p res b).drvPwr = false
      ∧ (finish p res b).wdgAck = b.wdgAck := by
  unfold finish
  rw [applyCont_frame]
  simp

/-- The block the evaluation starts from: the watchdog fed, and the override (R170, R173). -/
theorem manualOverride_cases (bp : Bool) (b : Block) :
    (bp = true ∧ manualOverride bp b = clearAlarmMemory { b with isAuto := false, isDown := true })
      ∨ (bp = false ∧ manualOverride bp b = b) := by
  cases bp <;> simp [manualOverride]

/-- Everything part 5 of the evaluation can choose (R175 to R178). -/
theorem chooseTransition_cases (alarm : Bool) (b : Block) :
    (b.isDown = true ∧ alarm = true ∧ chooseTransition alarm b = .raise)
      ∨ (b.isDown = false ∧ alarm = true ∧ chooseTransition alarm b = .defer)
      ∨ (b.isDown = false ∧ alarm = false ∧ b.isAuto = true ∧ tickTimer b.autoDownTimer = 0#16
        ∧ chooseTransition alarm b = .lower)
      ∨ (b.isDown = false ∧ alarm = false ∧ b.isAuto = true ∧ tickTimer b.autoDownTimer ≠ 0#16
        ∧ chooseTransition alarm b = .count)
      ∨ ((b.isDown = true ∨ b.isAuto = false) ∧ alarm = false
        ∧ chooseTransition alarm b = .nothing) := by
  unfold chooseTransition
  cases b.isDown <;> cases alarm <;> cases b.isAuto <;> simp
  exact em _

/-! ### Steps -/

/-- Every instruction answers: a block, a status and a datum. -/
theorem exec_answers (i : Instr) (s : State) :
    ∃ b st d, exec i s = .next (s.answered b st d) := by
  cases i with
  | nop => exact ⟨_, _, _, rfl⟩
  | sample ch raw => exact ⟨_, _, _, rfl⟩
  | rdfilt ch => exact ⟨_, _, _, rfl⟩
  | step => exact ⟨_, _, _, rfl⟩
  | wdgack => exact ⟨_, _, _, rfl⟩
  | tick1s wp bp =>
    by_cases h : s.blk.seq = .idle
    · exact ⟨_, _, _, congrArg Host.Outcome.next (if_pos h)⟩
    · exact ⟨_, _, _, congrArg Host.Outcome.next (if_neg h)⟩
  | move dir =>
    by_cases h : s.blk.seq = .idle
    · exact ⟨_, _, _, congrArg Host.Outcome.next (if_pos h)⟩
    · exact ⟨_, _, _, congrArg Host.Outcome.next (if_neg h)⟩
  | rdstat idx =>
    cases h : statusRegister s.cfg.val s.blk idx with
    | some v => exact ⟨s.blk, .ok, v, by simp [exec, execRdstat, h]⟩
    | none => exact ⟨s.blk, .illegal, 0#16, by simp [exec, execRdstat, h, State.refuse]⟩

/-- Everything one step can be: an operation's answer, or the refusal of an illegal word. -/
theorem step_cases (s : State) :
    (∃ i b st d, decode s.port.cmd = .ok i ∧ exec i s = .next (s.answered b st d)
        ∧ step s = .next (s.answered b st d).advance)
      ∨ (∃ e, decode s.port.cmd = .error e ∧ step s = .next (s.refuse .illegal).advance) := by
  cases h : decode s.port.cmd with
  | ok i =>
    obtain ⟨b, st, d, he⟩ := exec_answers i s
    exact .inl ⟨i, b, st, d, rfl, he, by simp [step, h, he]⟩
  | error e => exact .inr ⟨e, rfl, by simp [step, h]⟩

/-- Everything `STEP` can be, by the phase it finds (R185). -/
theorem stepBlock_cases (p : Params) (btn : Bool) (b : Block) :
    (b.seq = .idle ∧ stepBlock p btn b = idleStep p b)
      ∨ (b.seq = .settle1 ∧ stepBlock p btn b = settle1Step p (refreshWatchdog p b))
      ∨ (b.seq = .travel ∧ stepBlock p btn b = travelStep p btn (refreshWatchdog p b))
      ∨ (b.seq = .settle2 ∧ stepBlock p btn b = settle2Step p btn (refreshWatchdog p b))
      ∨ (b.seq = .waitRel ∧ stepBlock p btn b = waitRelStep p btn (refreshWatchdog p b)) := by
  cases h : b.seq <;> simp [stepBlock, h]

end Sys2Proof.Machine
end

