-- ==== Sys2Proof/Laws/PerInstr.lean ====
section
/-! SUPPORT. Statements about every instruction as syntax, one lemma per constructor. -/

namespace Sys2Proof.Laws

/-- The encoding of an instruction matches the opcode table's row of that instruction (R84). -/
def EncodedInRow.Statement (i : Instr) : Prop := (rowOf i).admits (encode i) = true

theorem EncodedInRow.nop : EncodedInRow.Statement .nop := rfl

/-- Under the mask only the opcode and the two zero bits are left of a `SAMPLE` word. -/
theorem sampleWord_masked (c : BitVec 2) (raw : U16) :
    (0x1#4 ++ c ++ 0#2 ++ raw) &&& 0xF30000#24 = 0x100000#24 := by
  have split : (0xF30000#24) = 0xF#4 ++ 0#2 ++ 3#2 ++ 0#16 := by decide
  have join : (0x100000#24) = 0x1#4 ++ 0#2 ++ 0#2 ++ 0#16 := by decide
  rw [split, join, BitVec.and_append, BitVec.and_append, BitVec.and_append]
  simp

theorem EncodedInRow.sample (ch : Channel) (raw : U16) : EncodedInRow.Statement (.sample ch raw) :=
  beq_iff_eq.mpr (sampleWord_masked (channelBits ch) raw)

theorem EncodedInRow.rdfilt (ch : Channel) : EncodedInRow.Statement (.rdfilt ch) := by
  cases ch <;> rfl

theorem EncodedInRow.tick1s (wp bp : Bool) : EncodedInRow.Statement (.tick1s wp bp) := by
  cases wp <;> cases bp <;> rfl

theorem EncodedInRow.move (dir : Direction) : EncodedInRow.Statement (.move dir) := by
  cases dir <;> rfl

theorem EncodedInRow.step : EncodedInRow.Statement .step := rfl

theorem EncodedInRow.wdgack : EncodedInRow.Statement .wdgack := rfl

theorem EncodedInRow.rdstat (idx : BitVec 5) : EncodedInRow.Statement (.rdstat idx) := by
  unfold EncodedInRow.Statement
  revert idx
  decide

end Sys2Proof.Laws
end

