-- ==== Sys2Proof/Tests/Slice0.lean ====
section
/-! SUPPORT. Named tests. Expected values are the spec's: 30_encoding.md R84 and R99 for the words,
95_test_vectors.md for the steps, 00_scope.md R5 for the ranges. The last part shows, for every
statement with hypotheses, a concrete case that meets them. -/

namespace Sys2Proof.Tests

open Sys2Proof.Machine

/-! ### Well-formedness: an ill-formed record or operand for each check, which the check refuses -/

theorem test_testCfg_legal : Config.testCfg.legal = true := by decide
theorem test_aSlow_refused : { Config.testCfg with aSlowQ15 := 32769#16 }.legal = false := by decide
theorem test_aFast_refused : { Config.testCfg with aFastQ15 := 32769#16 }.legal = false := by decide
theorem test_gustN_zero_refused : { Config.testCfg with gustN := 0 }.legal = false := by decide
theorem test_gustN_large_refused : { Config.testCfg with gustN := 18 }.legal = false := by decide
theorem test_gustWindow_refused : { Config.testCfg with gustWindow := 0#16 }.legal = false := by decide
theorem test_waterAlmTime_refused : { Config.testCfg with waterAlmTime := 0#3 }.legal = false := by
  decide
theorem test_tRelaySettle_refused : { Config.testCfg with tRelaySettle := 0#16 }.legal = false := by
  decide
theorem test_tTravelUp_refused : { Config.testCfg with tTravelUp := 0#16 }.legal = false := by decide
theorem test_tTravelDown_refused : { Config.testCfg with tTravelDown := 0#16 }.legal = false := by
  decide
theorem test_tPostSettle_refused : { Config.testCfg with tPostSettle := 0#16 }.legal = false := by
  decide
theorem test_wdgAckReload_refused : { Config.testCfg with wdgAckReload := 0#16 }.legal = false := by
  decide
theorem test_fTb_refused : { Config.testCfg with fTb := 0 }.legal = false := by decide
theorem test_channelOperand_refused : channelOperandOk 4 = false ∧ channelOperandOk 3 = true := by
  decide
theorem test_rawOperand_refused : rawOperandOk 65536 = false ∧ rawOperandOk 65535 = true := by decide
theorem test_bitOperand_refused : bitOperandOk 2 = false ∧ bitOperandOk 1 = true := by decide
theorem test_indexOperand_refused : indexOperandOk 32 = false ∧ indexOperandOk 31 = true := by decide

/-! ### Words, written out bit by bit from R84 -/

theorem test_decode_nop : decode 0b000000000000000000000000#24 = .ok .nop := by decide
theorem test_decode_sample :
    decode 0b000110001001110001000000#24 = .ok (.sample .windThresholdPot 40000#16) := by decide
theorem test_decode_rdfilt : decode 0b001001000000000000000000#24 = .ok (.rdfilt .waterMeasure) := by
  decide
theorem test_decode_tick1s_wp : decode 0b001100000000000000000001#24 = .ok (.tick1s true false) := by
  decide
theorem test_decode_tick1s_bp : decode 0b001100000000000000000010#24 = .ok (.tick1s false true) := by
  decide
theorem test_decode_move : decode 0b010000000000000000000001#24 = .ok (.move .up) := by decide
theorem test_decode_step : decode 0b010100000000000000000000#24 = .ok .step := by decide
theorem test_decode_wdgack : decode 0b011000000000000000000000#24 = .ok .wdgack := by decide
theorem test_decode_rdstat : decode 0b011100000000000000010011#24 = .ok (.rdstat 19#5) := by decide

/-- The illegal words of 95_test_vectors.md N13 to N20. -/
theorem test_decode_illegal :
    decode 0xF00000#24 = .error .reservedOpcode ∧ decode 0x110000#24 = .error .zeroBitSet
      ∧ decode 0x280001#24 = .error .zeroBitSet ∧ decode 0x400002#24 = .error .zeroBitSet
      ∧ decode 0x700020#24 = .error .zeroBitSet ∧ decode 0x000001#24 = .error .zeroBitSet
      ∧ decode 0x600800#24 = .error .zeroBitSet := by decide

theorem test_decodeTableWord :
    decodeTableWord 24 0x300001 = some (.tick1s true false) ∧ decodeTableWord 24 0x900000 = none := by
  decide

/-- The word placed on the port is the one the next step runs. -/
theorem test_withFetchWord : (State.reset.withFetchWord 24 0x600000).port.cmd = encode .wdgack := by
  decide

/-! ### One step each, from 95_test_vectors.md (TESTCFG) -/

/-- TESTCFG as a checked record. -/
def cfg : LegalParams := ⟨Config.testCfg, test_testCfg_legal⟩

/-- The reset block of TESTCFG: the vectors change the elements they name. -/
def base : Block := Block.reset Config.testCfg

/-- A machine with this block, the pin `btn` at this level, nothing pending. -/
def machine (b : Block) (btn : Bool) : State := ⟨cfg, b, ⟨0#24, btn, [], none⟩⟩

/-- The block of vectors P2 and P3: a ratio below or above the threshold. -/
def tuned (measure : U16) : Block :=
  { base with filt := #v[40000#16, measure, 0#16, 50000#16], threshold := 50000#16,
              setpoint := 50000#16, spD1 := 50000#16, spD2 := 50000#16 }

/-- A sequence in progress, begun by an evaluation with this continuation. -/
def moving (q : Phase) (n : U16) (c : Sys2Proof.Machine.Cont) (pressed : Bool) : Block :=
  { base with seq := q, seqCnt := n, seqCont := c, seqDir := .up, seqPressed := pressed,
              rlyAuto := true, rlyDir := true, drvPwr := decide (q = .travel) }

def responseOf (o : Host.Outcome State Fault Refusal) : Option Response :=
  match o with
  | .next t => t.port.resp
  | .fault _ => none
  | .refused _ => none

def blockOf (o : Host.Outcome State Fault Refusal) : Block := (stateAfter (machine base false) o).blk

theorem test_nop : exec .nop (machine { base with wdgAck := 5#16 } true)
    = .next { machine { base with wdgAck := 5#16 } true with
        port := ⟨0#24, true, [], some ⟨.ok, 0#16⟩⟩ } := by rfl

/-- P1, line 1. -/
theorem test_sample_pot :
    blockOf (exec (.sample .windThresholdPot 40000#16) (machine base false))
      = { base with filt := #v[0#16, 0#16, 195#16, 0#16] } := by decide

/-- P1, line 5. -/
theorem test_sample_water :
    blockOf (exec (.sample .waterRef 10000#16)
        (machine { base with filt := #v[14#16, 0#16, 0#16, 0#16], prev := #v[30000#16, 0#16] } false))
      = { base with filt := #v[23#16, 0#16, 0#16, 0#16], prev := #v[10000#16, 0#16] } := by decide

theorem test_rdfilt :
    responseOf (exec (.rdfilt .waterThresholdPot)
        (machine { base with filt := #v[32#16, 2#16, 389#16, 319#16] } false))
      = some ⟨.ok, 319#16⟩ := by decide

/-- P2, line 4: the fourth water pre-alarm raises. -/
theorem test_tick1s_water :
    let o := exec (.tick1s false false) (machine { tuned 20000#16 with waterAlarmCount := 3#3 } false)
    responseOf o = some ⟨.ok, 0x0015#16⟩ ∧ statusWord (blockOf o) = 0x314F#16 := by decide

/-- P3, line 3: the third gust raises, and the bank has only aged. -/
theorem test_tick1s_gust :
    let o := exec (.tick1s true false)
      (machine { tuned 40000#16 with gt := (Vector.replicate 16 0#16).set 0 4#16 |>.set 1 5#16 } false)
    responseOf o = some ⟨.ok, 0x001A#16⟩
      ∧ (blockOf o).gt = ((Vector.replicate 16 0#16).set 0 3#16 |>.set 1 4#16) := by decide

/-- M1. -/
theorem test_move :
    let o := exec (.move .down) (machine base false)
    responseOf o = some ⟨.ok, 0#16⟩ ∧ statusWord (blockOf o) = 0x100F#16
      ∧ (blockOf o).seqCnt = 2#16 := by decide

/-- M2. -/
theorem test_move_pressed :
    let o := exec (.move .up) (machine base true)
    responseOf o = some ⟨.ok, 2#16⟩ ∧ statusWord (blockOf o) = 0x0803#16 := by decide

/-- P2, line 14: a completed raise. -/
theorem test_step_completes :
    let o := exec .step (machine (moving .settle2 1#16 .raise false) false)
    responseOf o = some ⟨.ok, 0x0005#16⟩ ∧ statusWord (blockOf o) = 0x0402#16
      ∧ (blockOf o).autoDownTimer = 14400#16 := by decide

/-- S3. -/
theorem test_step_watchdog :
    exec .step (machine { base with wdgAck := 0#16, isAuto := false } false)
      = .next { machine base false with port := ⟨0#24, false, [], some ⟨.ok, 0x0008#16⟩⟩ } := by rfl

/-- N2. -/
theorem test_wdgack :
    blockOf (exec .wdgack (machine { base with wdgAck := 0#16 } false)) = base := by decide

/-- P3, line 17. -/
theorem test_rdstat_alarm :
    responseOf (exec (.rdstat 1#5) (machine { base with alarmFlags := 0b1010#4 } false))
      = some ⟨.ok, 0x000A#16⟩ := by decide

/-- N7: the first slot the bank does not have. -/
theorem test_rdstat_reserved :
    responseOf (exec (.rdstat 18#5) (machine base false)) = some ⟨.illegal, 0#16⟩ := by decide

/-! ### Text (R97, R98) -/

theorem test_text_sample :
    parseLine "SAMPLE WindThresholdPot, 40000" = some [.op (.sample .windThresholdPot 40000#16) false] := by
  decide
theorem test_text_btn : parseLine "STEP btn=1 ; held" = some [.op .step true] := by decide
theorem test_text_rdstat : parseLine "RDSTAT GT3" = some [.op (.rdstat 19#5) false] := by decide
theorem test_text_tickn : parseLine "TICKN 2, 1, 0" = some [.tickN 2 true false false] := by decide
theorem test_text_refused : parseLine "SAMPLE 4, 0" = none := by decide
theorem test_text_second :
    (expandLine Config.testCfg (.second true false)).map (·.cmd)
      = List.replicate 10 0x500000#24 ++ [0x300001#24] := by decide

/-! ### The hypotheses of the statements can be met -/

theorem witness_EncodeOfDecode : decode 0x189C40#24 = .ok (.sample .windThresholdPot 40000#16) := by
  decide

theorem witness_OpcodeRowsAreDisjoint :
    rowMove ∈ opcodeTable ∧ (0x400001#24 &&& rowMove.mask) = rowMove.pattern := by decide

theorem witness_StepRunsTheDecodedOperation :
    decode (machine base false).port.cmd = .ok .nop ∧ (machine base false).port.pending = []
      ∧ { machine base false with port := ⟨0x500000#24, true, [⟨0x600000#24, false⟩], none⟩ }.port.pending
        = ⟨0x600000#24, false⟩ :: [] := by decide

theorem witness_IllegalWordIsRefused :
    (∀ r ∈ opcodeTable, 0x800000#24 &&& r.mask ≠ r.pattern)
      ∧ ∀ r ∈ opcodeTable, 0x500001#24 &&& r.mask ≠ r.pattern := by decide

theorem witness_NoStepWritesAParameter : ∃ t, step (machine base false) = .next t := ⟨_, rfl⟩

theorem witness_StatusOfEachOperation : ∃ e, decode 0x800000#24 = .error e := ⟨.reservedOpcode, by decide⟩

theorem witness_RefusalChangesNothing :
    responseOf (exec (.tick1s false true) (machine (moving .settle1 1#16 .none false) true))
        = some ⟨.busy, 0#16⟩
      ∧ responseOf (exec (.rdstat 15#5) (machine base true)) = some ⟨.illegal, 0#16⟩ := by decide

theorem witness_ResetValues :
    (machine { base with wdgAck := 0#16 } false).blk.seq = .idle
      ∧ (machine { base with wdgAck := 0#16 } false).blk.wdgAck = 0#16 := by decide

theorem lawful_base : Lawful (machine base false) :=
  ⟨by decide, by decide, by decide, by decide, by decide⟩

/-- A lawful state in every phase. -/
theorem lawful_moving :
    Lawful (machine (moving .settle1 2#16 .raise false) false)
      ∧ Lawful (machine (moving .travel 6#16 .raise false) false)
      ∧ Lawful (machine (moving .settle2 1#16 .raise true) false)
      ∧ Lawful (machine (moving .waitRel 0#16 .raise true) false) :=
  ⟨⟨by decide, by decide, by decide, by decide, by decide⟩,
    ⟨by decide, by decide, by decide, by decide, by decide⟩,
    ⟨by decide, by decide, by decide, by decide, by decide⟩,
    ⟨by decide, by decide, by decide, by decide, by decide⟩⟩

theorem witness_EveryStepKeepsTheInvariants :
    Lawful (machine base false) ∧ ∃ t, step (machine base false) = .next t :=
  ⟨lawful_base, _, rfl⟩

/-- Coefficients at both ends, and inputs on both sides of the estimate (F8, F9, F14). -/
theorem witness_Filter :
    (0#16).toNat < 32768 ∧ (32767#16).toNat < 32768 ∧ (32768#16).toNat ≤ 32768
      ∧ (999#16).toNat < (1000#16).toNat ∧ (0#16).toNat < (2047#16).toNat
      ∧ iir 0#16 2047#16 32752#16 = 0#16 ∧ iir 0#16 2048#16 32752#16 = 1#16
      ∧ iir 1000#16 999#16 32752#16 = 999#16 := by decide

theorem witness_FilterBankHasOneWriter :
    (∃ t, exec .step (machine { base with wdgAck := 0#16 } false) = .next t)
      ∧ ∃ t, exec (.sample .waterRef 7#16) (machine base false) = .next t := ⟨⟨_, rfl⟩, ⟨_, rfl⟩⟩

/-- The last timer of the bank and the first index past it. -/
theorem witness_StatusViewMap :
    (17#5).toNat = 16 + 1 ∧ 1 < (machine base false).cfg.val.k
      ∧ (18#5).toNat - 16 = (machine base false).cfg.val.k ∧ (13#5).toNat = 13 ∧ (15#5).toNat = 15 := by
  decide

/-- The last case is a timed phase with `seq_cnt = 0`, which no run reaches. -/
theorem witness_SampleCommutes :
    ¬ ((machine base false).blk.seq = .idle ∧ (machine base false).blk.wdgAck = 0#16)
      ∧ Channel.waterMeasure ≠ .waterRef ∧ ¬ ((11#5) = 11#5 ∧ Channel.waterMeasure = .waterRef)
      ∧ ¬ ((machine (moving .settle1 0#16 .none false) false).blk.seq = .idle
        ∧ (machine (moving .settle1 0#16 .none false) false).blk.wdgAck = 0#16) := by
  decide

theorem witness_Move :
    ∀ btn : Bool, (machine base btn).blk.seq = .idle ∧ (machine base btn).port.btn = btn := by decide

theorem witness_Busy : (machine (moving .travel 1#16 .none false) false).blk.seq ≠ .idle := by decide

/-- An idle machine, Down: every evaluation statement starts from one, and here the override is or is
not given. -/
theorem witness_Tick :
    (machine (tuned 20000#16) true).blk.seq = .idle ∧ (machine (tuned 20000#16) true).blk.isDown = true
      ∧ 2 ≤ (machine base true).cfg.val.waterAlmTime.toNat ∧ 2 ≤ (machine base true).cfg.val.gustN := by
  decide

/-- Down and an alarm, with the button and without: the raise of P2 and its refusal (T7). -/
theorem witness_DownAndAlarm :
    let b : Block := { tuned 20000#16 with waterAlarmCount := 3#3 }
    b.seq = .idle ∧ downNow false b = true ∧ alarmNow cfg.val false false b = true
      ∧ actNext cfg.val false false b ≠ 0 ∧ (machine b true).port.btn = true
      ∧ (machine b false).port.btn = false := by decide

/-- Up and an alarm, the third gust. -/
theorem witness_UpAndAlarm :
    let b : Block := { tuned 40000#16 with isDown := false,
                                           gt := (Vector.replicate 16 0#16).set 0 4#16 |>.set 1 5#16 }
    b.seq = .idle ∧ downNow false b = false ∧ alarmNow cfg.val true false b = true := by decide

/-- Up, Auto, quiet, with the timer at 2, 1 and 0. -/
theorem witness_UpAutoQuiet :
    let b (n : U16) : Block := { tuned 40000#16 with isDown := false, autoDownTimer := n }
    (b 2#16).seq = .idle ∧ downNow false (b 2#16) = false ∧ autoNow false (b 2#16) = true
      ∧ alarmNow cfg.val true false (b 2#16) = false ∧ 2 ≤ (b 2#16).autoDownTimer.toNat
      ∧ (b 1#16).autoDownTimer.toNat ≤ 1 ∧ (b 0#16).autoDownTimer.toNat ≤ 1 := by decide

/-- Down and quiet; Up, Manual and quiet. -/
theorem witness_OtherwiseNoTransition :
    downNow false (tuned 40000#16) = true ∧ alarmNow cfg.val false false (tuned 40000#16) = false
      ∧ autoNow false { tuned 40000#16 with isDown := false, isAuto := false } = false
      ∧ alarmNow cfg.val false false { tuned 40000#16 with isDown := false, isAuto := false } = false := by
  decide

theorem witness_WaterRatio : (40000#16) ≠ 0#16 := by decide

/-- An empty bank; a window that holds N; fewer than N pre-alarms. -/
theorem witness_Gust :
    base.gt = Vector.replicate 16 0#16 ∧ cfg.val.gustN ≤ cfg.val.gustWindow.toNat
      ∧ [true, false, true].count true < cfg.val.gustN := by decide

theorem witness_ThresholdRelaxes :
    let b : Block := { tuned 40000#16 with threshold := 47500#16 }
    b.seq = .idle ∧ b.isDown = true ∧ b.spD1 = b.filt[3] ∧ b.spD2 = b.filt[3]
      ∧ b.threshold.toNat ≤ b.filt[3].toNat ∧ b.filt[3].toNat + cfg.val.thrMargin ≤ ratioNow b := by
  decide

/-- The six clauses of `StepAdvancesTheSequence`, in order. -/
theorem witness_StepAdvances :
    ((moving .settle1 2#16 .none false).seq = .settle1 ∧ (moving .settle1 2#16 .none false).seqCnt ≠ 0#16
        ∧ (moving .settle1 2#16 .none false).seqCnt ≠ 1#16)
      ∧ ((moving .settle1 1#16 .none false).seq = .settle1
        ∧ (moving .settle1 1#16 .none false).seqCnt = 1#16)
      ∧ ((machine (moving .travel 1#16 .none false) true).blk.seq = .travel
        ∧ (machine (moving .travel 1#16 .none false) true).port.btn = true)
      ∧ ((machine (moving .travel 2#16 .none false) false).blk.seq = .travel
        ∧ (machine (moving .travel 2#16 .none false) false).port.btn = false
        ∧ (machine (moving .travel 2#16 .none false) false).blk.seqCnt ≠ 1#16)
      ∧ ((machine (moving .travel 1#16 .none false) false).blk.seq = .travel
        ∧ (machine (moving .travel 1#16 .none false) false).port.btn = false
        ∧ (machine (moving .travel 1#16 .none false) false).blk.seqCnt = 1#16)
      ∧ ((moving .settle2 2#16 .none false).seq = .settle2
        ∧ (moving .settle2 2#16 .none false).seqCnt ≠ 1#16) := by decide

/-- The five clauses of `SequenceEndRunsTheContinuation`, in order. -/
theorem witness_SequenceEnd :
    ((moving .settle2 1#16 .lower false).seq = .settle2 ∧ (moving .settle2 1#16 .lower false).seqCnt = 1#16
        ∧ (moving .settle2 1#16 .lower false).seqPressed = false)
      ∧ (∀ btn : Bool, (machine (moving .settle2 1#16 .raise true) btn).blk.seq = .settle2
        ∧ (machine (moving .settle2 1#16 .raise true) btn).blk.seqCnt = 1#16
        ∧ (machine (moving .settle2 1#16 .raise true) btn).blk.seqPressed = true
        ∧ (machine (moving .settle2 1#16 .raise true) btn).port.btn = btn)
      ∧ ∀ btn : Bool, (machine (moving .waitRel 0#16 .raise true) btn).blk.seq = .waitRel
        ∧ (machine (moving .waitRel 0#16 .raise true) btn).port.btn = btn := by decide

/-- The length statements: a lawful start, its first and last counts. -/
theorem witness_SequenceLength :
    Lawful (machine (moving .settle1 2#16 .raise false) false)
      ∧ (moving .settle1 2#16 .raise false).seq = .settle1
      ∧ (moving .settle1 2#16 .raise false).seqCnt = cfg.val.tRelaySettle
      ∧ 10 = cfg.val.tRelaySettle.toNat + (travelTime cfg.val .up).toNat + cfg.val.tPostSettle.toNat
      ∧ 6 ≤ (travelTime cfg.val .up).toNat :=
  ⟨lawful_moving.1, by decide, by decide, by decide, by decide⟩

/-- The interrupted sequence: any levels in the settling delays, a press at the first and at the last
`STEP` of `TRAVEL`. -/
theorem witness_InterruptedSequenceLength :
    Lawful (machine (moving .settle1 2#16 .raise false) false)
      ∧ (moving .settle1 2#16 .raise false).seq = .settle1
      ∧ (moving .settle1 2#16 .raise false).seqCnt = cfg.val.tRelaySettle
      ∧ [true, false].length = cfg.val.tRelaySettle.toNat ∧ 1 ≤ (travelTime cfg.val .up).toNat
      ∧ 6 ≤ (travelTime cfg.val .up).toNat ∧ [true].length + 1 = cfg.val.tPostSettle.toNat :=
  ⟨lawful_moving.1, by decide, by decide, by decide, by decide, by decide, by decide⟩

theorem witness_UnrefreshedWatchdog :
    (machine base true).blk.seq = .idle ∧ 12 ≤ (machine base true).blk.wdgAck.toNat := by decide

/-- Two idle steps, an acknowledgement, two more, with a budget of two. -/
theorem witness_FedWatchdog :
    Lawful (machine base false) ∧ 2 ≤ (machine base false).blk.wdgAck.toNat
      ∧ watchdogFed 2 (List.replicate 2 (presentation .step false) ++ presentation .wdgack false
          :: List.replicate 2 (presentation .step false)) (machine base false) = true :=
  ⟨lawful_base, by decide, by decide⟩

/-- One idle step within the budget, the last one it allows. -/
theorem witness_FedWatchdogStep :
    let s : State := { machine base false with port := ⟨0x500000#24, false, [], none⟩ }
    Lawful s ∧ 1 ≤ s.blk.wdgAck.toNat ∧ budgetNext 1 s s.port.cmd = some 0 ∧ ∃ t, step s = .next t :=
  ⟨lawful_base, by decide, by decide, _, rfl⟩

/-- A step from Manual to Auto. -/
theorem witness_ManualIsAbsorbing :
    let s : State := { machine { base with isAuto := false, wdgAck := 0#16 } false with
                         port := ⟨0x500000#24, false, [], none⟩ }
    s.blk.isAuto = false ∧ ∃ t, step s = .next t ∧ t.blk.isAuto = true := ⟨rfl, _, rfl, rfl⟩

theorem witness_NoResetInMidMotion :
    (moving .travel 3#16 .raise false).seq ≠ .idle
      ∧ ∃ t r, exec .step (machine (moving .travel 3#16 .raise false) false) = .next t
        ∧ t.port.resp = some r ∧ r.data.getLsbD 2 = false := ⟨by decide, _, _, rfl, rfl, by decide⟩

/-- P2. -/
theorem witness_HeldWaterPreAlarm :
    let b : Block := tuned 20000#16
    b.seq = .idle ∧ b.isDown = true ∧ b.isAuto = true ∧ b.waterAlarmCount = 0#3
      ∧ b.threshold = b.filt[3] ∧ b.spD1 = b.filt[3] ∧ b.spD2 = b.filt[3]
      ∧ ratioNow b < b.filt[3].toNat ∧ 3 < cfg.val.waterAlmTime.toNat := by decide

theorem witness_PortRuns : (machine base false).port.pending = [] := by decide

end Sys2Proof.Tests
end

section
/-! PROOFS. What every step does, whatever word it finds (00_scope.md): it answers, and it keeps the
parameter record. -/

namespace Sys2Proof.Proofs

open Sys2Proof.Machine

/-- Both cases of `step_cases` in one form: a refusal, too, is an answer, with the block as it was
(R221). -/
theorem step_eq_next_answered (s : State) :
    ∃ b st d, step s = .next (s.answered b st d).advance := by
  rcases step_cases s with ⟨_, b, st, d, _, _, hstep⟩ | ⟨_, _, hstep⟩
  · exact ⟨b, st, d, hstep⟩
  · exact ⟨s.blk, .illegal, 0#16, hstep⟩

/-- Settles O8: the answer that ends a step still stands on the port after the port advances. -/
theorem everyStepAnswers : Obligations.EveryStepAnswers := by
  intro s
  obtain ⟨b, st, d, hstep⟩ := step_eq_next_answered s
  exact ⟨_, ⟨st, d⟩, hstep, by simp⟩

/-- Settles O9: answering writes the block and the port, advancing writes the port. -/
theorem noStepWritesAParameter : Obligations.NoStepWritesAParameter := by
  intro s t ht
  obtain ⟨b, st, d, hstep⟩ := step_eq_next_answered s
  have hanswer : (s.answered b st d).advance = t := Host.Outcome.next.inj (hstep.symm.trans ht)
  simp [← hanswer]

end Sys2Proof.Proofs
end

section
/-! PROOFS. What each operation does to the block, said once: the branches of `STEP` (R185) and of `exec`
as inductive relations, each tied to the model by one lemma, and the elements an operation leaves as they
were. The statements of 10_state.md are proved from these. -/

namespace Sys2Proof.Proofs

open Sys2Proof.Machine

/-! ### `STEP` -/

/-- The branches of `STEP` (R185 to R193): the block and the response data, by what it finds. -/
inductive StepEffect (p : Params) (btn : Bool) (b : Block) : Block × U16 → Prop
  /-- Idle, the watchdog run out (R226). -/
  | reset (hseq : b.seq = .idle) (hack : b.wdgAck = 0#16) :
      StepEffect p btn b (resetState p, stepData true false .none)
  /-- Idle, the watchdog counting (R225). -/
  | idleCount (hseq : b.seq = .idle) (hack : b.wdgAck ≠ 0#16) :
      StepEffect p btn b ({ b with wdgAck := b.wdgAck - 1#16 }, stepData false false .none)
  /-- A timed phase that is not over (R188 to R190). -/
  | count (hseq : b.seq = .settle1 ∨ b.seq = .travel ∨ b.seq = .settle2)
      (hcnt : countedDown p (refreshWatchdog p b) ≠ 0#16) :
      StepEffect p btn b ({ refreshWatchdog p b with seqCnt := countedDown p (refreshWatchdog p b) },
        stepData false false .none)
  /-- The settling delay is over: power on (R188). -/
  | powerOn (hseq : b.seq = .settle1) (hcnt : countedDown p (refreshWatchdog p b) = 0#16) :
      StepEffect p btn b ({ refreshWatchdog p b with
        drvPwr := true, seq := .travel, seqCnt := travelTime p b.seqDir }, stepData false false .none)
  /-- A press ends the travel (R189). -/
  | press (hseq : b.seq = .travel) (hbtn : btn = true) :
      StepEffect p btn b (endTravel p { refreshWatchdog p b with seqPressed := true },
        stepData false false .none)
  /-- The travel time is over (R189). -/
  | arrive (hseq : b.seq = .travel) (hbtn : btn = false)
      (hcnt : countedDown p (refreshWatchdog p b) = 0#16) :
      StepEffect p btn b (endTravel p (refreshWatchdog p b), stepData false false .none)
  /-- The further settle delay is over and a recorded press is still held (R190, R192). -/
  | hold (hseq : b.seq = .settle2) (hcnt : countedDown p (refreshWatchdog p b) = 0#16)
      (hpressed : b.seqPressed = true) (hbtn : btn = true) :
      StepEffect p btn b ({ refreshWatchdog p b with seqCnt := 0#16, seq := .waitRel },
        stepData false false .none)
  /-- The button is held on in `WAITREL` (R192). -/
  | wait (hseq : b.seq = .waitRel) (hbtn : btn = true) :
      StepEffect p btn b (refreshWatchdog p b, stepData false false .none)
  /-- The sequence ends with no press recorded (R190). -/
  | complete (hseq : b.seq = .settle2) (hcnt : countedDown p (refreshWatchdog p b) = 0#16)
      (hpressed : b.seqPressed = false) :
      StepEffect p btn b (finish p .completed (refreshWatchdog p b), stepData false true .completed)
  /-- The sequence ends after a press, the button released (R190, R192). -/
  | interrupt (hseq : b.seq = .settle2 ∨ b.seq = .waitRel) (hbtn : btn = false) :
      StepEffect p btn b (finish p .interrupted (refreshWatchdog p b),
        stepData false true .interrupted)

/-- `STEP` does what one of its branches says. -/
theorem stepBlock_effect (p : Params) (btn : Bool) (b : Block) :
    StepEffect p btn b (stepBlock p btn b) := by
  rcases stepBlock_cases p btn b with ⟨hseq, h⟩ | ⟨hseq, h⟩ | ⟨hseq, h⟩ | ⟨hseq, h⟩ | ⟨hseq, h⟩ <;>
    rw [h]
  · by_cases hack : b.wdgAck = 0#16
    · simpa [idleStep, hack] using .reset hseq hack
    · simpa [idleStep, hack] using .idleCount hseq hack
  · by_cases hcnt : countedDown p (refreshWatchdog p b) = 0#16
    · simpa [settle1Step, hcnt] using .powerOn hseq hcnt
    · simpa [settle1Step, hcnt] using .count (.inl hseq) hcnt
  · cases hbtn : btn with
    | true => exact .press hseq rfl
    | false =>
      by_cases hcnt : countedDown p (refreshWatchdog p b) = 0#16
      · simpa [travelStep, hcnt] using .arrive hseq rfl hcnt
      · simpa [travelStep, hcnt] using .count (.inr (.inl hseq)) hcnt
  · by_cases hcnt : countedDown p (refreshWatchdog p b) = 0#16
    · cases hpressed : b.seqPressed with
      | false => simpa [settle2Step, hcnt, hpressed] using .complete hseq hcnt hpressed
      | true =>
        cases hbtn : btn with
        | true =>
          have hhold := StepEffect.hold (p := p) hseq hcnt hpressed rfl
          simpa [settle2Step, hcnt, hpressed] using hhold
        | false => simpa [settle2Step, hcnt, hpressed] using .interrupt (.inl hseq) rfl
    · simpa [settle2Step, hcnt] using .count (.inr (.inr hseq)) hcnt
  · cases hbtn : btn with
    | true => exact .wait hseq rfl
    | false => exact .interrupt (.inr hseq) rfl

/-! ### One operation -/

/-- The block after an accepted `TICK1S` (R170). -/
def tickBlock (p : Params) (btn wp bp : Bool) (b : Block) : Block :=
  applyTransition p btn (evaluationTransition (evaluate p wp bp b)) (evaluate p wp bp b).blk

/-- What one operation can do to the block: nothing, or what the branch of its operation says. -/
inductive Effect (p : Params) (btn : Bool) (b : Block) : Instr → Block → Prop
  /-- The operations that read, and a refusal (R67, R221). -/
  | unchanged (i : Instr) : Effect p btn b i b
  | sample (ch : Channel) (raw : U16) : Effect p btn b (.sample ch raw) (sampleBlock p ch raw b)
  | tick (wp bp : Bool) (hseq : b.seq = .idle) :
      Effect p btn b (.tick1s wp bp) (tickBlock p btn wp bp b)
  | move (d : Direction) (hseq : b.seq = .idle) :
      Effect p btn b (.move d) (startMove p btn d .none (refreshWatchdog p b))
  | step (r : Block × U16) (h : StepEffect p btn b r) : Effect p btn b .step r.1
  | wdgack : Effect p btn b .wdgack (refreshWatchdog p b)

/-- An accepted `TICK1S` (R170). -/
theorem exec_tick1s_of_idle (wp bp : Bool) (s : State) (h : s.blk.seq = .idle) :
    exec (.tick1s wp bp) s = .next (s.answered (tickBlock s.cfg.val s.port.btn wp bp s.blk) .ok
      (tickData (decide (transitionAct (evaluationTransition (evaluate s.cfg.val wp bp s.blk)) ≠ .none)
          && s.port.btn) (transitionAct (evaluationTransition (evaluate s.cfg.val wp bp s.blk)))
        (evaluationFlags (evaluate s.cfg.val wp bp s.blk)))) :=
  congrArg Host.Outcome.next (if_pos h)

/-- A `TICK1S` during a sequence (R196). -/
theorem exec_tick1s_of_busy (wp bp : Bool) (s : State) (h : s.blk.seq ≠ .idle) :
    exec (.tick1s wp bp) s = .next (s.refuse .busy) := congrArg Host.Outcome.next (if_neg h)

/-- An accepted `MOVE` (R181). -/
theorem exec_move_of_idle (d : Direction) (s : State) (h : s.blk.seq = .idle) :
    exec (.move d) s = .next (s.answered
      (startMove s.cfg.val s.port.btn d .none (refreshWatchdog s.cfg.val s.blk)) .ok
      (moveData s.port.btn)) := congrArg Host.Outcome.next (if_pos h)

/-- A `MOVE` during a sequence (R196). -/
theorem exec_move_of_busy (d : Direction) (s : State) (h : s.blk.seq ≠ .idle) :
    exec (.move d) s = .next (s.refuse .busy) := congrArg Host.Outcome.next (if_neg h)

theorem exec_step (s : State) :
    exec .step s = .next (s.answered (stepBlock s.cfg.val s.port.btn s.blk).1 .ok
      (stepBlock s.cfg.val s.port.btn s.blk).2) := rfl

/-- `RDSTAT` at an index of the status view (R213). -/
theorem exec_rdstat_of_some {idx : BitVec 5} {s : State} {v : U16}
    (h : statusRegister s.cfg.val s.blk idx = some v) :
    exec (.rdstat idx) s = .next (s.answered s.blk .ok v) := by
  simp [exec, execRdstat, h]

/-- `RDSTAT` at a reserved index (R222). -/
theorem exec_rdstat_of_none {idx : BitVec 5} {s : State}
    (h : statusRegister s.cfg.val s.blk idx = none) :
    exec (.rdstat idx) s = .next (s.answered s.blk .illegal 0#16) := by
  simp [exec, execRdstat, h, State.refuse]

/-- Every operation answers with a block that `Effect` allows. -/
theorem exec_answers_effect (i : Instr) (s : State) :
    ∃ b st d, exec i s = .next (s.answered b st d) ∧ Effect s.cfg.val s.port.btn s.blk i b := by
  cases i with
  | nop => exact ⟨_, _, _, rfl, .unchanged _⟩
  | sample ch raw => exact ⟨_, _, _, rfl, .sample ch raw⟩
  | rdfilt ch => exact ⟨_, _, _, rfl, .unchanged _⟩
  | tick1s wp bp =>
    by_cases h : s.blk.seq = .idle
    · exact ⟨_, _, _, exec_tick1s_of_idle wp bp s h, .tick wp bp h⟩
    · exact ⟨_, _, _, exec_tick1s_of_busy wp bp s h, .unchanged _⟩
  | move d =>
    by_cases h : s.blk.seq = .idle
    · exact ⟨_, _, _, exec_move_of_idle d s h, .move d h⟩
    · exact ⟨_, _, _, exec_move_of_busy d s h, .unchanged _⟩
  | step => exact ⟨_, _, _, exec_step s, .step _ (stepBlock_effect _ _ _)⟩
  | wdgack => exact ⟨_, _, _, rfl, .wdgack⟩
  | rdstat idx =>
    cases h : statusRegister s.cfg.val s.blk idx with
    | some v => exact ⟨_, _, _, exec_rdstat_of_some h, .unchanged _⟩
    | none => exact ⟨_, _, _, exec_rdstat_of_none h, .unchanged _⟩

/-- `Effect` read off an execution. -/
theorem effect_of_exec {i : Instr} {s t : State} (h : exec i s = .next t) :
    Effect s.cfg.val s.port.btn s.blk i t.blk := by
  obtain ⟨b, st, d, hexec, heffect⟩ := exec_answers_effect i s
  rw [hexec] at h
  cases h
  exact heffect

/-- A step changes the block as the decoded operation does, or, at an illegal word, not at all (R93). -/
theorem step_effect {s t : State} (h : step s = .next t) :
    t.cfg = s.cfg ∧ (t.blk = s.blk
      ∨ ∃ i, decode s.port.cmd = .ok i ∧ Effect s.cfg.val s.port.btn s.blk i t.blk) := by
  rcases step_cases s with ⟨i, b, st, d, hdecode, hexec, hstep⟩ | ⟨_, _, hstep⟩ <;>
    rw [hstep] at h <;> cases h
  · have heffect := effect_of_exec hexec
    exact ⟨rfl, .inr ⟨i, hdecode, heffect⟩⟩
  · exact ⟨rfl, .inl rfl⟩

end Sys2Proof.Proofs
end

section
/-! PROOFS. The evaluation `TICK1S` (R170): the elements each of its parts writes, and what it computes, on
the exact integers of the statements' vocabulary (`flagsNext`, `actNext` and the like). -/

namespace Sys2Proof.Proofs

open Sys2Proof.Machine

/-! ### What a continuation, a start and a transition leave as they were -/

/-- A start touches neither what the evaluation has recorded nor the power (R180, R187). -/
theorem startMove_frame (p : Params) (btn : Bool) (dir : Direction) (cont : Sys2Proof.Machine.Cont)
    (b : Block) :
    startMove p btn dir cont b
      = { startMove p btn dir cont b with
          filt := b.filt, prev := b.prev, setpoint := b.setpoint, spD1 := b.spD1, spD2 := b.spD2,
          minimumSeen := b.minimumSeen, alarmFlags := b.alarmFlags, drvPwr := b.drvPwr,
          wdgAck := b.wdgAck } := by
  rcases startMove_cases p btn dir cont b with ⟨-, h⟩ | ⟨-, h⟩ <;> rw [h]
  · rw [applyCont_frame]
  · rfl

/-- Nor does a transition (R175 to R178). -/
theorem applyTransition_frame (p : Params) (btn : Bool) (t : Transition) (b : Block) :
    applyTransition p btn t b
      = { applyTransition p btn t b with
          filt := b.filt, prev := b.prev, setpoint := b.setpoint, spD1 := b.spD1, spD2 := b.spD2,
          minimumSeen := b.minimumSeen, alarmFlags := b.alarmFlags, drvPwr := b.drvPwr,
          wdgAck := b.wdgAck } := by
  cases t with
  | raise => exact startMove_frame ..
  | lower => exact startMove_frame ..
  | defer => rfl
  | count => rfl
  | nothing => rfl

/-! ### What parts 1 to 4 leave -/

section Evaluation

variable (p : Params) (wp bp : Bool) (b : Block)

/-- Parts 1 to 4 write the elements named here and no other (R170, R199): the override the record, the
mode and the alarm memory, `WATER` its own registers, `GUST` the bank. -/
theorem evaluate_frame :
    (evaluate p wp bp b).blk
      = { (evaluate p wp bp b).blk with
          filt := b.filt, prev := b.prev, setpoint := b.filt[3], spD1 := b.filt[3], spD2 := b.spD1,
          isDown := downNow bp b, isAuto := autoNow bp b, autoDownTimer := b.autoDownTimer,
          alarmFlags := evaluationFlags (evaluate p wp bp b), seq := b.seq, seqCnt := b.seqCnt,
          seqDir := b.seqDir, seqPressed := b.seqPressed, seqCont := b.seqCont,
          lastResult := b.lastResult, rlyAuto := b.rlyAuto, rlyDir := b.rlyDir, drvPwr := b.drvPwr,
          wdgAck := p.wdgAckReload } := by
  unfold evaluate
  dsimp only
  rw [gust_frame, water_frame]
  cases bp <;> rfl

theorem evaluate_sequencerOf : sequencerOf (evaluate p wp bp b).blk = sequencerOf b := by
  rw [evaluate_frame]
  rfl

/-! ### What parts 1 to 4 compute, on exact integers -/

/-- The machine's ratio is that of R146. -/
theorem waterRatio_eq_ratioNow :
    waterRatio (readFilt b .waterRef) (readFilt b .waterMeasure) = ratioNow b := by
  simp only [waterRatio, ratioNow, readFilt, channelIndex, ← BitVec.toNat_inj]
  rfl

theorem evaluate_windPre : (evaluate p wp bp b).windPre = wp := rfl

theorem evaluate_waterPre : (evaluate p wp bp b).waterPre = preAlarmNow b := by
  rw [preAlarmNow, ← waterRatio_eq_ratioNow]
  cases bp <;> rfl

/-- `GUST` leaves the count as part 2 made it (R174). -/
theorem evaluate_waterAlarmCount_of_water :
    (evaluate p wp bp b).blk.waterAlarmCount
      = countPreAlarm p (evaluate p wp bp b).waterPre
          (water p bp (manualOverride bp (refreshWatchdog p b))).1.waterAlarmCount :=
  congrArg Block.waterAlarmCount (gust_frame ..)

/-- The count of parts 1 and 2, on the memory the override left (R173, R174). -/
theorem evaluate_waterAlarmCount :
    (evaluate p wp bp b).blk.waterAlarmCount
      = countPreAlarm p (preAlarmNow b) (if bp then 0#3 else b.waterAlarmCount) := by
  rw [evaluate_waterAlarmCount_of_water, evaluate_waterPre, water_frame]
  cases bp <;> rfl

theorem evaluate_waterAlarmCount_toNat :
    (evaluate p wp bp b).blk.waterAlarmCount.toNat = countNext p bp b := by
  rw [evaluate_waterAlarmCount, countPreAlarm_toNat]
  cases bp <;> rfl

theorem evaluate_waterAlarm : (evaluate p wp bp b).waterAlarm = waterAlarmNow p bp b := by
  rw [waterAlarmNow, ← evaluate_waterAlarmCount_toNat p wp bp b, evaluate_waterAlarmCount_of_water]
  rfl

/-- `wind_alarm` of `GUST` (R131). -/
theorem gust_alarm :
    (gust p wp b).2 = (wp && decide (p.k ≤ activeTimers p.k (ageTimers p.k b.gt))) := by
  rcases gust_cases p wp b with ⟨⟨hwp, hk⟩, h⟩ | ⟨⟨hwp, hk⟩, h⟩ | ⟨hwp, h⟩ <;> rw [h]
  · simp [hwp, hk]
  · simp [hwp, hk]
  · simp [hwp]

/-- A timer is active after the ageing exactly when it read 2 or more before it (R131, R132). -/
theorem activeTimers_ageTimers (k : Nat) (g : Bank) :
    activeTimers k (ageTimers k g)
      = ((List.finRange 16).filter fun i => decide (i.val < k) && decide (2 ≤ g[i].toNat)).length := by
  rw [activeTimers, List.countP_eq_length_filter]
  refine congrArg List.length (List.filter_congr fun i _ => ?_)
  by_cases hk : i.val < k
  · have hage := ageTimers_getElem_toNat k g i
    rw [if_pos hk] at hage
    simp only [hk, decide_true, Bool.true_and, decide_eq_decide, ne_eq, ← BitVec.toNat_inj, hage,
      BitVec.toNat_ofNat]
    omega
  · simp [hk]

/-- After the override no timer is active (R171). -/
theorem activeTimers_ageTimers_cleared (k : Nat) :
    activeTimers k (ageTimers k (Vector.replicate 16 0#16)) = 0 := by
  simp [activeTimers_ageTimers]

theorem evaluate_windAlarm : (evaluate p wp bp b).windAlarm = windAlarmNow p wp bp b := by
  have hbank : (water p bp (manualOverride bp (refreshWatchdog p b))).1.gt
      = if bp then Vector.replicate 16 0#16 else b.gt := by
    rw [water_frame]
    cases bp <;> rfl
  have halarm : (evaluate p wp bp b).windAlarm
      = (wp && decide (p.k ≤ activeTimers p.k (ageTimers p.k
          (water p bp (manualOverride bp (refreshWatchdog p b))).1.gt))) := gust_alarm ..
  rw [halarm, hbank, windAlarmNow, stillActive]
  cases bp
  · simp [activeTimers_ageTimers]
  · simp [activeTimers_ageTimers_cleared]

theorem alarmRaised_evaluate : alarmRaised (evaluate p wp bp b) = alarmNow p wp bp b := by
  rw [alarmRaised, evaluate_waterAlarm, evaluate_windAlarm, alarmNow]

/-- `minimum_seen` after `WATER` (R151 to R155). -/
theorem water_minimumSeen (justManual : Bool) :
    (water p justManual b).1.minimumSeen
      = if b.isDown then (if justManual then b.minimumSeen else 65535#16)
        else if b.isAuto then loweredMinimum b.minimumSeen (ratioNow b) else b.minimumSeen := by
  rw [← waterRatio_eq_ratioNow]
  unfold water waterPolicy
  cases b.isDown <;> cases b.isAuto <;> cases justManual <;> rfl

theorem evaluate_minimumSeen_toNat :
    (evaluate p wp bp b).blk.minimumSeen.toNat = minimumNext bp b := by
  have hwater : (evaluate p wp bp b).blk.minimumSeen
      = (water p bp (manualOverride bp (refreshWatchdog p b))).1.minimumSeen := by
    unfold evaluate
    dsimp only
    rw [gust_frame]
  have hratio : ratioNow (refreshWatchdog p b) = ratioNow b := rfl
  rw [hwater, water_minimumSeen]
  cases bp
  · cases hdown : b.isDown <;> cases hauto : b.isAuto <;>
      simp [manualOverride, minimumNext, downNow, autoNow, hdown, hauto, loweredMinimum_toNat, hratio]
  · rfl

/-! ### Packed words -/

theorem packAlarmFlags_toNat (windPre waterPre windAlarm waterAlarm : Bool) :
    (packAlarmFlags windPre waterPre windAlarm waterAlarm).toNat
      = 8 * windPre.toNat + 4 * waterPre.toNat + 2 * windAlarm.toNat + waterAlarm.toNat := by
  revert windPre waterPre windAlarm waterAlarm
  decide

theorem tickData_toNat (refused : Bool) (act : Act) (flags : BitVec 4) :
    (tickData refused act flags).toNat
      = 64 * refused.toNat + 16 * (actCode act).toNat + flags.toNat := by
  cases refused <;> cases act <;> revert flags <;> decide

theorem evaluationFlags_toNat :
    (evaluationFlags (evaluate p wp bp b)).toNat = flagsNext p wp bp b := by
  rw [evaluationFlags, packAlarmFlags_toNat, evaluate_windPre, evaluate_waterPre, evaluate_windAlarm,
    evaluate_waterAlarm, flagsNext]

/-! ### What part 5 invokes -/

/-- The actuation of the transition that is chosen, by the record, the mode and the timer. -/
theorem actCode_chooseTransition_toNat (alarm : Bool) (b : Block) :
    (actCode (transitionAct (chooseTransition alarm b))).toNat
      = if b.isDown then (if alarm then 1 else 0) else if alarm then 0
        else if b.isAuto then (if b.autoDownTimer.toNat ≤ 1 then 2 else 0) else 0 := by
  rcases chooseTransition_cases alarm b with ⟨hdown, halarm, h⟩ | ⟨hdown, halarm, h⟩ |
    ⟨hdown, halarm, hauto, htimer, h⟩ | ⟨hdown, halarm, hauto, htimer, h⟩ | ⟨hquiet, halarm, h⟩ <;>
    rw [h]
  · simp [hdown, halarm, transitionAct, actCode]
  · simp [hdown, halarm, transitionAct, actCode]
  · simp [hdown, halarm, hauto, (tickTimer_eq_zero_iff _).mp htimer, transitionAct, actCode]
  · simp [hdown, halarm, hauto, mt (tickTimer_eq_zero_iff _).mpr htimer, transitionAct, actCode]
  · rcases hquiet with hdown | hauto
    · simp [hdown, halarm, transitionAct, actCode]
    · simp [hauto, halarm, transitionAct, actCode]

theorem actCode_evaluationTransition_toNat :
    (actCode (transitionAct (evaluationTransition (evaluate p wp bp b)))).toNat
      = actNext p wp bp b := by
  rw [evaluationTransition, actCode_chooseTransition_toNat, alarmRaised_evaluate, evaluate_frame,
    actNext]

/-- An actuation is invoked exactly when its code is not 0. -/
theorem transitionAct_ne_none_iff :
    transitionAct (evaluationTransition (evaluate p wp bp b)) ≠ .none ↔ actNext p wp bp b ≠ 0 := by
  rw [← actCode_evaluationTransition_toNat]
  cases transitionAct (evaluationTransition (evaluate p wp bp b)) <;> decide

end Evaluation

end Sys2Proof.Proofs
end

section
/-! PROOFS. The state at reset, the status view and `MOVE` (70_reset_and_hazards.md R245, 10_state.md R50
to R53, 43_actuator.md R181). -/

namespace Sys2Proof.Proofs

open Sys2Proof.Machine

/-! ### Reset -/

/-- An idle `STEP` that finds the watchdog run out (R226). -/
theorem exec_step_of_reset (s : State) (hseq : s.blk.seq = .idle) (hack : s.blk.wdgAck = 0#16) :
    exec .step s = .next (s.answered (Block.reset s.cfg.val) .ok 8#16) := by
  rw [exec_step, stepBlock, hseq]
  dsimp only
  rw [idleStep, if_pos hack]
  rfl

/-- Settles O12: `Block.reset` lists the values of R245. -/
theorem resetValues : Obligations.ResetValues :=
  ⟨fun _ => rfl, rfl, fun s hseq hack => exec_step_of_reset s hseq hack⟩

/-! ### `MOVE` -/

/-- `rly_dir` by direction, as the rule writes it (R45). -/
theorem directionLevel_eq_ite (p : Params) (d : Direction) :
    directionLevel p d = if d = .up then p.dirUpLevel else !p.dirUpLevel := by
  cases d <;> rfl

/-- Settles O42: the button alone decides between `beginSequence` and a refusal that has no
continuation to run. -/
theorem moveStartsOrIsRefusedAtOnce : Obligations.MoveStartsOrIsRefusedAtOnce := by
  intro s d hseq
  refine ⟨fun hbtn => ?_, fun hbtn => ?_⟩ <;> rw [exec_move_of_idle d s hseq, hbtn]
  · rw [← directionLevel_eq_ite]
    rfl
  · rfl

/-! ### The status view -/

/-- Indices 13 to 15 are reserved (R50). -/
theorem statusRegister_of_hole (p : Params) (b : Block) (idx : BitVec 5) (h : 13 ≤ idx.toNat)
    (h' : idx.toNat ≤ 15) : statusRegister p b idx = none := by
  have hidx : idx.toNat = 13 ∨ idx.toNat = 14 ∨ idx.toNat = 15 := by omega
  unfold statusRegister
  rcases hidx with hidx | hidx | hidx <;> rw [hidx] <;> rfl

/-- From index 16 on the view shows the timers the bank has (R50). -/
theorem statusRegister_of_timer (p : Params) (b : Block) (idx : BitVec 5) (i : Nat)
    (h : idx.toNat = 16 + i) :
    statusRegister p b idx = if i < p.k then some b.gt[Fin.ofNat 16 i] else none := by
  unfold statusRegister
  rw [h, Nat.add_comm]
  rfl

/-- Settles O23: every index of the map through `statusRegister`, by its three ranges. -/
theorem statusViewMap : Obligations.StatusViewMap := by
  intro s
  refine ⟨?registers, ?timers, ?reserved⟩
  case registers =>
    simp only [List.forall_mem_cons]
    refine ⟨?_, ?_, ?_, ?_, ?_, ?_, ?_, ?_, ?_, ?_, List.forall_mem_nil _⟩ <;>
      exact exec_rdstat_of_some rfl
  case timers =>
    intro idx i hi hidx hk
    refine exec_rdstat_of_some ?_
    rw [statusRegister_of_timer _ _ idx i hidx, if_pos hk]
    simp [Nat.mod_eq_of_lt hi]
  case reserved =>
    rintro idx (⟨hlow, hhigh⟩ | ⟨hlow, hk⟩)
    · exact exec_rdstat_of_none (statusRegister_of_hole _ _ idx hlow hhigh)
    · refine exec_rdstat_of_none ?_
      rw [statusRegister_of_timer _ _ idx (idx.toNat - 16) (by omega), if_neg (by omega)]

/-! ### The packed words of the view, field by field -/

/-- The one-bit fields of `STATUS` (R51). -/
theorem statusWord_bits (b : Block) :
    (statusWord b).getLsbD 0 = b.isDown ∧ (statusWord b).getLsbD 1 = b.isAuto
      ∧ (statusWord b).getLsbD 2 = decide (b.seq ≠ .idle)
      ∧ (statusWord b).getLsbD 6 = directionBit b.seqDir
      ∧ (statusWord b).getLsbD 7 = b.seqPressed ∧ (statusWord b).getLsbD 12 = b.rlyAuto
      ∧ (statusWord b).getLsbD 13 = b.rlyDir ∧ (statusWord b).getLsbD 14 = b.drvPwr
      ∧ (statusWord b).getLsbD 15 = false := by
  simp only [statusWord, BitVec.getLsbD_append]
  simp [busy]

/-- The coded fields of `STATUS` (R51). -/
theorem statusWord_codes (b : Block) :
    (statusWord b).extractLsb' 3 3 = phaseCode b.seq
      ∧ (statusWord b).extractLsb' 8 2 = contCode b.seqCont
      ∧ (statusWord b).extractLsb' 10 2 = resultCode b.lastResult := by
  simp (disch := decide) only [statusWord, BitVec.extractLsb'_append_eq_of_le,
    BitVec.extractLsb'_append_eq_of_add_le]
  simp

theorem directionBit_eq_decide (d : Direction) : directionBit d = decide (d = .up) := by
  cases d <;> rfl

/-- No parameter enters the word at reset (R51). -/
theorem statusWord_reset (p : Params) : statusWord (Block.reset p) = 0x0003#16 := by
  have hparams : statusWord (Block.reset p) = statusWord (Block.reset Config.testCfg) := rfl
  rw [hparams]
  decide

/-- Settles O24: the fields of the word, and its value at reset, the same for every record. -/
theorem statusWordFields : Obligations.StatusWordFields := by
  refine ⟨fun s => ?_, fun p => exec_rdstat_of_some (congrArg some (statusWord_reset p.val))⟩
  obtain ⟨hdown, hauto, hbusy, hdir, hpressed, hrlyAuto, hrlyDir, hpwr, hzero⟩ :=
    statusWord_bits s.blk
  obtain ⟨hphase, hcont, hresult⟩ := statusWord_codes s.blk
  rw [directionBit_eq_decide] at hdir
  exact ⟨statusWord s.blk, exec_rdstat_of_some rfl, hdown, hauto, hbusy, hphase, hdir, hpressed, hcont,
    hresult, hrlyAuto, hrlyDir, hpwr, hzero⟩

/-- The fields of `ALARM` (R52). -/
theorem alarmWord_fields (b : Block) :
    (alarmWord b).extractLsb' 0 4 = b.alarmFlags
      ∧ (alarmWord b).extractLsb' 4 3 = b.waterAlarmCount
      ∧ (alarmWord b).extractLsb' 7 9 = 0#9 := by
  simp (disch := decide) only [alarmWord, BitVec.extractLsb'_append_eq_of_le,
    BitVec.extractLsb'_append_eq_of_add_le]
  simp

/-- The fields of `GUSTSTAT` (R53). -/
theorem gustStatWord_fields (k : Nat) (b : Block) :
    (gustStatWord k b).extractLsb' 0 5 = BitVec.ofNat 5 (activeTimers k b.gt)
      ∧ (gustStatWord k b).extractLsb' 5 3 = 0#3
      ∧ (gustStatWord k b).extractLsb' 8 4 = BitVec.ofNat 4 b.gnext.val
      ∧ (gustStatWord k b).extractLsb' 12 4 = 0#4 := by
  simp (disch := decide) only [gustStatWord, BitVec.extractLsb'_append_eq_of_le,
    BitVec.extractLsb'_append_eq_of_add_le]
  simp

/-- The number of active timers is at most 16, so it fits its field (R53). -/
theorem activeTimers_le (k : Nat) (g : Bank) : activeTimers k g ≤ 16 :=
  List.countP_le_length.trans_eq List.length_finRange

/-- The reset bank has no active timer (R245). -/
theorem activeTimers_cleared (k : Nat) : activeTimers k (Vector.replicate 16 0#16) = 0 := by
  simp [activeTimers]

theorem gustStatWord_reset (p : Params) : gustStatWord p.k (Block.reset p) = 0#16 := by
  have hword : gustStatWord p.k (Block.reset p)
      = 0#4 ++ 0#4 ++ 0#3 ++ BitVec.ofNat 5 (activeTimers p.k (Vector.replicate 16 0#16)) := rfl
  rw [hword, activeTimers_cleared]
  decide

theorem alarmWord_reset (p : Params) : alarmWord (Block.reset p) = 0#16 := by
  have hparams : alarmWord (Block.reset p) = alarmWord (Block.reset Config.testCfg) := rfl
  rw [hparams]
  decide

/-- Settles O25: the fields of both words, and their values at reset. -/
theorem alarmAndGustWordFields : Obligations.AlarmAndGustWordFields := by
  refine ⟨fun s => ⟨alarmWord s.blk, exec_rdstat_of_some rfl, alarmWord_fields s.blk⟩,
    fun s => ⟨gustStatWord s.cfg.val.k s.blk, exec_rdstat_of_some rfl, ?_⟩, fun p => ?_⟩
  · obtain ⟨hactive, hzero, hnext, hhigh⟩ := gustStatWord_fields s.cfg.val.k s.blk
    refine ⟨?_, hzero, ?_, hhigh⟩
    · have hle := activeTimers_le s.cfg.val.k s.blk.gt
      rw [hactive, BitVec.toNat_ofNat, Nat.mod_eq_of_lt (by omega), activeTimers,
        List.countP_eq_length_filter]
    · rw [hnext, BitVec.toNat_ofNat, Nat.mod_eq_of_lt (by omega)]
  · simp only [List.forall_mem_cons]
    exact ⟨exec_rdstat_of_some (congrArg some (alarmWord_reset p.val)),
      exec_rdstat_of_some (congrArg some (gustStatWord_reset p.val)), List.forall_mem_nil _⟩

end Sys2Proof.Proofs
end

section
/-! PROOFS. What the block can do in one operation: who writes the filter bank (10_state.md R23), which
phase follows which (44_system.md R214), what leaves Manual (R32), and what an accepted `TICK1S` records
(43_actuator.md R170). -/

namespace Sys2Proof.Proofs

open Sys2Proof.Machine

/-! ### The elements that an accepted `TICK1S` gives -/

/-- Part 5 keeps what parts 1 to 4 recorded (R170). -/
theorem tickBlock_frame (p : Params) (btn wp bp : Bool) (b : Block) :
    tickBlock p btn wp bp b
      = { tickBlock p btn wp bp b with
          filt := b.filt, prev := b.prev, setpoint := b.filt[3], spD1 := b.filt[3], spD2 := b.spD1,
          minimumSeen := (evaluate p wp bp b).blk.minimumSeen,
          alarmFlags := evaluationFlags (evaluate p wp bp b), drvPwr := b.drvPwr,
          wdgAck := p.wdgAckReload } := by
  unfold tickBlock
  rw [applyTransition_frame, evaluate_frame]

/-- Settles O29: every element but the flags and the minimum is read off `tickBlock_frame`; those two
and the data are the machine's registers on exact integers. -/
theorem tickRecordsTheEvaluation : Obligations.TickRecordsTheEvaluation := by
  intro s wp bp hseq
  refine ⟨_, _, exec_tick1s_of_idle wp bp s hseq, rfl, rfl, ?data, ?rest⟩
  case data =>
    rw [tickData_toNat, actCode_evaluationTransition_toNat, evaluationFlags_toNat]
    simp only [transitionAct_ne_none_iff]
  case rest =>
    rw [State.answered_blk, tickBlock_frame]
    exact ⟨evaluationFlags_toNat .., rfl, rfl, rfl, evaluate_minimumSeen_toNat .., rfl, rfl, rfl, rfl⟩

/-! ### The writer of the filter bank -/

theorem finish_filt (p : Params) (res : ActResult) (b : Block) : (finish p res b).filt = b.filt := by
  rw [finish, applyCont_frame, endSequence_filt]

theorem finish_prev (p : Params) (res : ActResult) (b : Block) : (finish p res b).prev = b.prev := by
  rw [finish, applyCont_frame, endSequence_prev]

/-- No `STEP` but the watchdog reset writes the filter bank. -/
theorem StepEffect.filterBank {p : Params} {btn : Bool} {b : Block} {r : Block × U16}
    (h : StepEffect p btn b r) :
    (r.1.filt = b.filt ∧ r.1.prev = b.prev) ∨ (b.seq = .idle ∧ b.wdgAck = 0#16) := by
  cases h with
  | reset hseq hack => exact .inr ⟨hseq, hack⟩
  | idleCount => exact .inl ⟨rfl, rfl⟩
  | count => exact .inl ⟨rfl, rfl⟩
  | powerOn => exact .inl ⟨rfl, rfl⟩
  | press => exact .inl ⟨rfl, rfl⟩
  | arrive => exact .inl ⟨rfl, rfl⟩
  | hold => exact .inl ⟨rfl, rfl⟩
  | wait => exact .inl ⟨rfl, rfl⟩
  | complete => exact .inl ⟨finish_filt .., finish_prev ..⟩
  | interrupt => exact .inl ⟨finish_filt .., finish_prev ..⟩

/-- No operation but `SAMPLE` and the watchdog reset writes the filter bank (R23). -/
theorem Effect.filterBank {p : Params} {btn : Bool} {b b' : Block} {i : Instr}
    (h : Effect p btn b i b') (hi : ∀ ch raw, i ≠ .sample ch raw) :
    (b'.filt = b.filt ∧ b'.prev = b.prev) ∨ (i = .step ∧ b.seq = .idle ∧ b.wdgAck = 0#16) := by
  cases h with
  | unchanged => exact .inl ⟨rfl, rfl⟩
  | sample ch raw => exact absurd rfl (hi ch raw)
  | tick wp bp =>
    rw [tickBlock_frame]
    exact .inl ⟨rfl, rfl⟩
  | move d =>
    rw [startMove_frame]
    exact .inl ⟨rfl, rfl⟩
  | step r hstep => exact hstep.filterBank.imp_right fun hreset => ⟨rfl, hreset⟩
  | wdgack => exact .inl ⟨rfl, rfl⟩

/-- `SAMPLE` writes the filter bank only (R234). -/
theorem sampleBlock_frame (p : Params) (ch : Channel) (raw : U16) (b : Block) :
    sampleBlock p ch raw b
      = { b with filt := (sampleBlock p ch raw b).filt, prev := (sampleBlock p ch raw b).prev } := by
  cases ch <;> rfl

/-- Settles O20: the first part is `Effect.filterBank`, the second `sampleBlock_frame`. -/
theorem filterBankHasOneWriter : Obligations.FilterBankHasOneWriter := by
  intro i s t hexec
  refine ⟨(effect_of_exec hexec).filterBank, ?_⟩
  rintro ch raw rfl
  cases hexec
  exact sampleBlock_frame ..

/-! ### The phase -/

/-- The start of a sequence, or its refusal (R180). -/
theorem startMove_seq (p : Params) (btn : Bool) (dir : Direction) (cont : Sys2Proof.Machine.Cont)
    (b : Block) :
    (startMove p btn dir cont b).seq = b.seq ∨ (startMove p btn dir cont b).seq = .settle1 := by
  rcases startMove_cases p btn dir cont b with ⟨-, h⟩ | ⟨-, h⟩ <;> rw [h]
  · rw [applyCont_frame]
    exact .inl rfl
  · exact .inr rfl

theorem applyTransition_seq (p : Params) (btn : Bool) (t : Transition) (b : Block) :
    (applyTransition p btn t b).seq = b.seq ∨ (applyTransition p btn t b).seq = .settle1 := by
  cases t with
  | raise => exact startMove_seq ..
  | lower => exact startMove_seq ..
  | defer => exact .inl rfl
  | count => exact .inl rfl
  | nothing => exact .inl rfl

theorem tickBlock_seq (p : Params) (btn wp bp : Bool) (b : Block) :
    (tickBlock p btn wp bp b).seq = b.seq ∨ (tickBlock p btn wp bp b).seq = .settle1 := by
  have hparts : (evaluate p wp bp b).blk.seq = b.seq := by rw [evaluate_frame]
  exact hparts ▸ applyTransition_seq p btn _ (evaluate p wp bp b).blk

/-- The phase order of `STEP` (R214). -/
theorem StepEffect.phase {p : Params} {btn : Bool} {b : Block} {r : Block × U16}
    (h : StepEffect p btn b r) :
    r.1.seq = b.seq ∨ (b.seq = .settle1 ∧ r.1.seq = .travel)
      ∨ (b.seq = .travel ∧ r.1.seq = .settle2) ∨ (b.seq = .settle2 ∧ r.1.seq = .waitRel)
      ∨ (b.seq = .settle2 ∧ r.1.seq = .idle) ∨ (b.seq = .waitRel ∧ r.1.seq = .idle) := by
  cases h with
  | reset hseq => exact .inl hseq.symm
  | idleCount => exact .inl rfl
  | count => exact .inl rfl
  | wait => exact .inl rfl
  | powerOn hseq => exact .inr (.inl ⟨hseq, rfl⟩)
  | press hseq => exact .inr (.inr (.inl ⟨hseq, rfl⟩))
  | arrive hseq => exact .inr (.inr (.inl ⟨hseq, rfl⟩))
  | hold hseq => exact .inr (.inr (.inr (.inl ⟨hseq, rfl⟩)))
  | complete hseq =>
    obtain ⟨hidle, -⟩ := finish_sequencer p .completed (refreshWatchdog p b)
    exact .inr (.inr (.inr (.inr (.inl ⟨hseq, hidle⟩))))
  | interrupt hseq =>
    obtain ⟨hidle, -⟩ := finish_sequencer p .interrupted (refreshWatchdog p b)
    exact .inr (.inr (.inr (.inr (hseq.imp (⟨·, hidle⟩) (⟨·, hidle⟩)))))

/-- Settles O46: the phase changes in a start, which is `TICK1S` or `MOVE` while idle, or in a `STEP`. -/
theorem phaseTransitionRelation : Obligations.PhaseTransitionRelation := by
  intro i s t hexec
  have heffect := effect_of_exec hexec
  generalize t.blk = b' at heffect ⊢
  cases heffect with
  | unchanged => exact .inl rfl
  | sample ch raw =>
    rw [sampleBlock_frame]
    exact .inl rfl
  | tick wp bp hseq =>
    exact (tickBlock_seq ..).imp_right fun h => .inl ⟨hseq, h, .inl ⟨wp, bp, rfl⟩⟩
  | move d hseq =>
    exact (startMove_seq _ _ d .none (refreshWatchdog s.cfg.val s.blk)).imp_right
      fun h => .inl ⟨hseq, h, .inr ⟨d, rfl⟩⟩
  | step r hstep => exact hstep.phase.imp_right fun h => .inr ⟨rfl, h⟩
  | wdgack => exact .inl rfl

/-! ### The mode -/

/-- A continuation leads to Manual only (R187). -/
theorem isAuto_of_applyCont {p : Params} {cont : Sys2Proof.Machine.Cont} {res : ActResult} {b : Block}
    (h : (applyCont p cont res b).isAuto = true) : b.isAuto = true := by
  rcases applyCont_cases p cont res b with ⟨-, hb⟩ | ⟨-, -, hb⟩ | ⟨-, -, hb⟩ | ⟨-, -, hb⟩ <;>
    rw [hb] at h
  · exact h
  · exact h
  · exact h
  · exact absurd h (by simp)

theorem isAuto_of_startMove {p : Params} {btn : Bool} {dir : Direction} {cont : Sys2Proof.Machine.Cont}
    {b : Block} (h : (startMove p btn dir cont b).isAuto = true) : b.isAuto = true := by
  rcases startMove_cases p btn dir cont b with ⟨-, hb⟩ | ⟨-, hb⟩ <;> rw [hb] at h
  · have hauto := isAuto_of_applyCont h
    exact hauto
  · exact h

theorem isAuto_of_applyTransition {p : Params} {btn : Bool} {t : Transition} {b : Block}
    (h : (applyTransition p btn t b).isAuto = true) : b.isAuto = true := by
  cases t with
  | raise => exact isAuto_of_startMove h
  | lower =>
    have hauto := isAuto_of_startMove h
    exact hauto
  | defer => exact h
  | count => exact h
  | nothing => exact h

theorem isAuto_of_tickBlock {p : Params} {btn wp bp : Bool} {b : Block}
    (h : (tickBlock p btn wp bp b).isAuto = true) : b.isAuto = true := by
  have hauto : (evaluate p wp bp b).blk.isAuto = true := isAuto_of_applyTransition h
  rw [evaluate_frame] at hauto
  exact (Bool.and_eq_true_iff.mp hauto).2

/-- A `STEP` sets Auto only by the watchdog reset (R32). -/
theorem StepEffect.isAuto {p : Params} {btn : Bool} {b : Block} {r : Block × U16}
    (h : StepEffect p btn b r) (hauto : r.1.isAuto = true) :
    b.isAuto = true ∨ (b.seq = .idle ∧ b.wdgAck = 0#16 ∧ r.1 = Block.reset p) := by
  cases h with
  | reset hseq hack => exact .inr ⟨hseq, hack, rfl⟩
  | idleCount => exact .inl hauto
  | count => exact .inl hauto
  | powerOn => exact .inl hauto
  | press => exact .inl hauto
  | arrive => exact .inl hauto
  | hold => exact .inl hauto
  | wait => exact .inl hauto
  | complete =>
    have hwas := isAuto_of_applyCont hauto
    exact .inl hwas
  | interrupt =>
    have hwas := isAuto_of_applyCont hauto
    exact .inl hwas

/-- An operation sets Auto only as the watchdog reset (R32). -/
theorem Effect.isAuto {p : Params} {btn : Bool} {b b' : Block} {i : Instr}
    (h : Effect p btn b i b') (hauto : b'.isAuto = true) :
    b.isAuto = true ∨ (i = .step ∧ b.seq = .idle ∧ b.wdgAck = 0#16 ∧ b' = Block.reset p) := by
  cases h with
  | unchanged => exact .inl hauto
  | sample ch raw =>
    rw [sampleBlock_frame] at hauto
    exact .inl hauto
  | tick => exact .inl (isAuto_of_tickBlock hauto)
  | move => exact .inl (isAuto_of_startMove (b := refreshWatchdog p b) hauto)
  | step r hstep => exact (hstep.isAuto hauto).imp_right fun hreset => ⟨rfl, hreset⟩
  | wdgack => exact .inl hauto

/-- Settles O52: a step that found Manual can only have been the `reset` branch of `STEP`. -/
theorem manualIsAbsorbing : Obligations.ManualIsAbsorbing := by
  refine ⟨fun _ => rfl, fun s t hstep hmanual hauto => ?_⟩
  obtain ⟨-, hsame | ⟨i, hdecode, heffect⟩⟩ := step_effect hstep
  · rw [hsame, hmanual] at hauto
    cases hauto
  · rcases heffect.isAuto hauto with hwas | ⟨rfl, hseq, hack, hblk⟩
    · rw [hmanual] at hwas
      cases hwas
    · exact ⟨hdecode, hseq, hack, hblk⟩

end Sys2Proof.Proofs
end

section
/-! PROOFS. The invariant of the block (43_actuator.md R191, 10_state.md R24, R25, R33, R34, R39, R42, R47):
what it says of an idle block and of a running sequence, and that each part of every operation keeps it. -/

namespace Sys2Proof.Proofs

open Sys2Proof.Machine

/-! ### The parameters' ranges (R5) -/

section Ranges

variable (p : LegalParams)

/-- The ranges that the invariant rests on. -/
theorem legal_ranges :
    p.val.gustN ≤ 17 ∧ 1 ≤ p.val.waterAlmTime.toNat ∧ 1 ≤ p.val.tRelaySettle.toNat
      ∧ 1 ≤ p.val.tTravelUp.toNat ∧ 1 ≤ p.val.tTravelDown.toNat ∧ 1 ≤ p.val.tPostSettle.toNat := by
  have h := p.property
  simp only [Params.legal, Bool.and_eq_true, decide_eq_true_eq] at h
  omega

theorem k_le : p.val.k ≤ 16 := by
  obtain ⟨hgustN, -⟩ := legal_ranges p
  exact Nat.sub_le_of_le_add hgustN

theorem one_le_travelTime (d : Direction) : 1 ≤ (travelTime p.val d).toNat := by
  obtain ⟨-, -, -, hup, hdown, -⟩ := legal_ranges p
  cases d with
  | up => exact hup
  | down => exact hdown

end Ranges

/-! ### The invariant of an idle block -/

/-- The sequencer and the pins at their reset values, whatever the last result (R191). -/
def AtRest (b : Block) : Prop :=
  ∃ res, sequencerOf b = ⟨.idle, 0#16, .down, false, .none, res, false, false, false⟩

theorem AtRest.seq {b : Block} (h : AtRest b) : b.seq = .idle := by
  obtain ⟨res, hview⟩ := h
  exact congrArg SequencerView.seq hview

/-- While idle the invariant is the sequencer's rest, the bank's bounds and the counters'. -/
theorem blockLawful_idle_iff {p : Params} {b : Block} (hseq : b.seq = .idle) :
    BlockLawful p b ↔ AtRest b ∧ BankLawful p b ∧ CountersLawful p b := by
  constructor
  · rintro ⟨⟨hpwr, hauto, hidle, -⟩, -, -, hbank, hcounters⟩
    obtain ⟨hdir, hcnt, hseqDir, hpressed, hcont⟩ := hidle hseq
    refine ⟨⟨b.lastResult, ?_⟩, hbank, hcounters⟩
    have hoff : b.drvPwr = false := by simpa [hseq] using hpwr
    have hrelay : b.rlyAuto = false := by simpa [hseq] using hauto
    simp [sequencerOf, hseq, hdir, hcnt, hseqDir, hpressed, hcont, hoff, hrelay]
  · rintro ⟨⟨res, hview⟩, hbank, hcounters⟩
    simp only [sequencerOf, SequencerView.mk.injEq] at hview
    obtain ⟨-, hcnt, hseqDir, hpressed, hcont, -, hrelay, hdir, hoff⟩ := hview
    refine ⟨?_, ?_, ?_, hbank, hcounters⟩
    · simp [PinsLawful, hseq, hdir, hcnt, hseqDir, hpressed, hcont, hoff, hrelay]
    · simp [CountLawful, hseq]
    · simp [ContLawful, hcont]

theorem blockLawful_of_atRest {p : Params} {b : Block} (hrest : AtRest b) (hbank : BankLawful p b)
    (hcounters : CountersLawful p b) : BlockLawful p b :=
  (blockLawful_idle_iff hrest.seq).mpr ⟨hrest, hbank, hcounters⟩

/-! ### The bank -/

/-- The cleared bank keeps its bounds (R171). -/
theorem bankLawful_of_clear {p : Params} {b : Block} (h : alarmMemoryOf b = clearMemory) :
    BankLawful p b := by
  simp only [alarmMemoryOf, clearMemory, Prod.mk.injEq] at h
  obtain ⟨-, hgt, hgnext⟩ := h
  simp [BankLawful, hgt, hgnext]

/-- The ageing keeps the bounds of the bank (R131). -/
theorem ageTimers_bankLawful {p : Params} {b : Block} (h : BankLawful p b) :
    BankLawful p { b with gt := ageTimers p.k b.gt } := by
  obtain ⟨hwindow, houtside, hptr⟩ := h
  have hage := fun i => ageTimers_getElem_toNat p.k b.gt i
  refine ⟨fun i => ?_, fun i hi => ?_, hptr⟩
  · have hi := hwindow i
    have hai := hage i
    dsimp only
    split at hai <;> omega
  · have hai := hage i
    rw [if_neg (by omega), houtside i hi] at hai
    exact BitVec.eq_of_toNat_eq hai

/-- A stored event goes into a slot that the bank has (R131). -/
theorem allocateEvent_bankLawful (p : LegalParams) {b : Block} (h : BankLawful p.val b) :
    BankLawful p.val (allocateEvent p.val b) := by
  unfold allocateEvent
  split
  case h_2 => exact h
  case h_1 i hfree =>
    obtain ⟨-, j, hj, rfl, -⟩ := freeSlot_some _ _ _ _ hfree
    obtain ⟨hwindow, houtside, -⟩ := h
    have hk := k_le p
    have hslot : (ringSlot p.val.k b.gnext j).val < p.val.k := by
      rw [ringSlot_val _ _ _ (by omega) hk]
      exact Nat.mod_lt _ (by omega)
    refine ⟨fun i => ?_, fun i hi => ?_, ?_⟩
    · simp only [storeEvent_gt, Fin.getElem_fin, Vector.getElem_set]
      split
      · exact le_rfl
      · exact hwindow i
    · simp only [storeEvent_gt, Fin.getElem_fin, Vector.getElem_set]
      rw [if_neg (by omega)]
      exact houtside i hi
    · have hnext := Nat.mod_lt ((ringSlot p.val.k b.gnext j).val + 1) (show 0 < p.val.k by omega)
      simp only [storeEvent_gnext, Fin.val_ofNat]
      omega

theorem gust_bankLawful (p : LegalParams) (windPre : Bool) {b : Block} (h : BankLawful p.val b) :
    BankLawful p.val (gust p.val windPre b).1 := by
  have haged := ageTimers_bankLawful h
  rcases gust_cases p.val windPre b with ⟨-, hb⟩ | ⟨-, hb⟩ | ⟨-, hb⟩ <;> rw [hb]
  · exact haged
  · exact allocateEvent_bankLawful p haged
  · exact haged

/-! ### Continuations and the end of a sequence -/

/-- An idle block stays lawful when its alarm memory is cleared, whatever its record, mode and threshold
become. -/
theorem blockLawful_of_cleared {p : Params} {b c : Block} (h : BlockLawful p b) (hseq : b.seq = .idle)
    (hview : sequencerOf c = sequencerOf b) (hmemory : alarmMemoryOf c = clearMemory)
    (htimer : c.autoDownTimer.toNat ≤ p.fourHours.toNat) (hack : c.wdgAck = b.wdgAck)
    (hflags : c.alarmFlags = b.alarmFlags) : BlockLawful p c := by
  obtain ⟨⟨res, hrest⟩, -, -, -, hackLe, -, hwater, hwind⟩ := (blockLawful_idle_iff hseq).mp h
  have hcrest : AtRest c := ⟨res, hview.trans hrest⟩
  have hcount : c.waterAlarmCount = 0#3 := congrArg Prod.fst hmemory
  rw [← hflags] at hwater hwind
  exact blockLawful_of_atRest hcrest (bankLawful_of_clear hmemory)
    ⟨by simp [hcount], htimer, by rwa [hack], fun hbusy => absurd hcrest.seq hbusy, hwater, hwind⟩

theorem applyCont_lawful {p : Params} {b : Block} (cont : Sys2Proof.Machine.Cont) (res : ActResult)
    (h : BlockLawful p b) (hseq : b.seq = .idle) : BlockLawful p (applyCont p cont res b) := by
  obtain ⟨-, -, -, htimer, -⟩ := (blockLawful_idle_iff hseq).mp h
  rcases applyCont_cases p cont res b with ⟨-, hb⟩ | ⟨-, -, hb⟩ | ⟨-, -, hb⟩ | ⟨-, -, hb⟩ <;> rw [hb]
  · exact h
  · exact blockLawful_of_cleared h hseq rfl rfl le_rfl rfl rfl
  · exact blockLawful_of_cleared h hseq rfl rfl htimer rfl rfl
  · exact blockLawful_of_cleared h hseq rfl rfl htimer rfl rfl

theorem endSequence_lawful {p : Params} {b : Block} (res : ActResult) (h : BlockLawful p b) :
    BlockLawful p (endSequence res b) := by
  obtain ⟨-, -, -, hbank, hcount, htimer, hack, -, hwater, hwind⟩ := h
  exact blockLawful_of_atRest ⟨res, rfl⟩ hbank
    ⟨hcount, htimer, hack, fun hbusy => absurd rfl hbusy, hwater, hwind⟩

theorem finish_lawful {p : Params} {b : Block} (res : ActResult) (h : BlockLawful p b) :
    BlockLawful p (finish p res b) :=
  applyCont_lawful b.seqCont res (endSequence_lawful res h) rfl

/-! ### The start of a sequence -/

theorem refreshWatchdog_lawful {p : Params} {b : Block} (h : BlockLawful p b) :
    BlockLawful p (refreshWatchdog p b) := by
  obtain ⟨hpins, hphase, hcont, hbank, hcount, htimer, -, -, hflags⟩ := h
  exact ⟨hpins, hphase, hcont, hbank, hcount, htimer, le_rfl, fun _ => rfl, hflags⟩

/-- An accepted start, from an idle block with the watchdog fed (R180, R193). -/
theorem beginSequence_lawful (p : LegalParams) {b : Block} {dir : Direction}
    {cont : Sys2Proof.Machine.Cont} (h : BlockLawful p.val b) (hseq : b.seq = .idle)
    (hack : b.wdgAck = p.val.wdgAckReload) (hcont : ContLawful (beginSequence p.val dir cont b)) :
    BlockLawful p.val (beginSequence p.val dir cont b) := by
  obtain ⟨⟨hpwr, -⟩, -, -, hbank, hcount, htimer, hackLe, -, hflags⟩ := h
  have hoff : b.drvPwr = false := by simpa [hseq] using hpwr
  refine ⟨?_, ?_, hcont, hbank, hcount, htimer, hackLe, fun _ => hack, hflags⟩
  · simp [PinsLawful, hoff]
  · obtain ⟨-, -, hsettle, -⟩ := legal_ranges p
    simp [CountLawful, hsettle]

theorem startMove_lawful (p : LegalParams) {b : Block} {dir : Direction}
    {cont : Sys2Proof.Machine.Cont} (btn : Bool) (h : BlockLawful p.val b) (hseq : b.seq = .idle)
    (hack : b.wdgAck = p.val.wdgAckReload) (hcont : ContLawful (beginSequence p.val dir cont b)) :
    BlockLawful p.val (startMove p.val btn dir cont b) := by
  rcases startMove_cases p.val btn dir cont b with ⟨-, hb⟩ | ⟨-, hb⟩ <;> rw [hb]
  · obtain ⟨⟨res, hview⟩, hbank, hcounters⟩ := (blockLawful_idle_iff hseq).mp h
    have hrefused : AtRest { b with lastResult := .interrupted } :=
      ⟨.interrupted, congrArg (fun v : SequencerView => { v with lastResult := .interrupted }) hview⟩
    exact applyCont_lawful _ _ (blockLawful_of_atRest hrefused hbank hcounters) hseq
  · exact beginSequence_lawful p h hseq hack hcont

/-! ### The evaluation -/

/-- A water alarm comes with its pre-alarm: without one the count is 0 (R174). -/
theorem preAlarmNow_of_waterAlarmNow (p : LegalParams) {bp : Bool} {b : Block}
    (h : waterAlarmNow p.val bp b = true) : preAlarmNow b = true := by
  obtain ⟨-, htime, -⟩ := legal_ranges p
  by_contra hpre
  rw [waterAlarmNow, countNext, if_neg hpre, decide_eq_true_eq] at h
  omega

/-- The bits of the flags word (R35). -/
theorem packAlarmFlags_bits (windPre waterPre windAlarm waterAlarm : Bool) :
    (packAlarmFlags windPre waterPre windAlarm waterAlarm).getLsbD 0 = waterAlarm
      ∧ (packAlarmFlags windPre waterPre windAlarm waterAlarm).getLsbD 1 = windAlarm
      ∧ (packAlarmFlags windPre waterPre windAlarm waterAlarm).getLsbD 2 = waterPre
      ∧ (packAlarmFlags windPre waterPre windAlarm waterAlarm).getLsbD 3 = windPre := by
  revert windPre waterPre windAlarm waterAlarm
  decide

/-- An alarm flag is never recorded without its pre-alarm flag (R131, R174). -/
theorem evaluationFlags_lawful (p : LegalParams) (wp bp : Bool) (b : Block) :
    ((evaluationFlags (evaluate p.val wp bp b)).getLsbD 0 = true →
        (evaluationFlags (evaluate p.val wp bp b)).getLsbD 2 = true)
      ∧ ((evaluationFlags (evaluate p.val wp bp b)).getLsbD 1 = true →
        (evaluationFlags (evaluate p.val wp bp b)).getLsbD 3 = true) := by
  rw [evaluationFlags, evaluate_windPre, evaluate_waterPre, evaluate_windAlarm, evaluate_waterAlarm]
  obtain ⟨hwater, hwind, hwaterPre, hwindPre⟩ :=
    packAlarmFlags_bits wp (preAlarmNow b) (windAlarmNow p.val wp bp b) (waterAlarmNow p.val bp b)
  rw [hwater, hwind, hwaterPre, hwindPre]
  exact ⟨preAlarmNow_of_waterAlarmNow p, fun h => (Bool.and_eq_true_iff.mp h).1⟩

/-- `WATER` after the override leaves the bank as it was, or cleared (R171, R173). -/
theorem water_manualOverride_bankLawful {p : Params} {b : Block} (bp : Bool) (h : BankLawful p b) :
    BankLawful p (water p bp (manualOverride bp (refreshWatchdog p b))).1 := by
  rw [water_frame]
  cases bp with
  | false => exact h
  | true => exact bankLawful_of_clear rfl

theorem evaluate_lawful (p : LegalParams) (wp bp : Bool) {b : Block} (h : BlockLawful p.val b)
    (hseq : b.seq = .idle) : BlockLawful p.val (evaluate p.val wp bp b).blk := by
  obtain ⟨⟨res, hview⟩, hbank, -, htimer, -⟩ := (blockLawful_idle_iff hseq).mp h
  have hrest : AtRest (evaluate p.val wp bp b).blk := ⟨res, (evaluate_sequencerOf ..).trans hview⟩
  have hbank' : BankLawful p.val (evaluate p.val wp bp b).blk :=
    gust_bankLawful p wp (water_manualOverride_bankLawful bp hbank)
  have hcount : (evaluate p.val wp bp b).blk.waterAlarmCount.toNat ≤ p.val.waterAlmTime.toNat := by
    rw [evaluate_waterAlarmCount_toNat, countNext]
    split <;> omega
  refine blockLawful_of_atRest hrest hbank' ⟨hcount, ?_⟩
  rw [evaluate_frame]
  exact ⟨htimer, le_rfl, fun _ => rfl, evaluationFlags_lawful p wp bp b⟩

/-- A decrement of the timer keeps an idle block lawful (R33, R177). -/
theorem tickTimer_lawful {p : Params} {b : Block} (h : BlockLawful p b) (hseq : b.seq = .idle) :
    BlockLawful p { b with autoDownTimer := tickTimer b.autoDownTimer } := by
  obtain ⟨hrest, hbank, hcount, htimer, hothers⟩ := (blockLawful_idle_iff hseq).mp h
  refine blockLawful_of_atRest hrest hbank ⟨hcount, ?_, hothers⟩
  simp only [tickTimer_toNat]
  omega

/-- Part 5 keeps the invariant: a raise is armed when Down, a lowering when Up, Auto and with the timer
run out (R175 to R178). -/
theorem applyTransition_lawful (p : LegalParams) (btn alarm : Bool) {b : Block}
    (h : BlockLawful p.val b) (hseq : b.seq = .idle) (hack : b.wdgAck = p.val.wdgAckReload) :
    BlockLawful p.val (applyTransition p.val btn (chooseTransition alarm b) b) := by
  rcases chooseTransition_cases alarm b with ⟨hdown, -, ht⟩ | ⟨-, -, ht⟩ |
    ⟨hdown, -, hauto, htimer, ht⟩ | ⟨-, -, -, -, ht⟩ | ⟨-, -, ht⟩ <;> rw [ht]
  · exact startMove_lawful p btn h hseq hack (by simp [ContLawful, hdown])
  · obtain ⟨hrest, hbank, hcount, -, hothers⟩ := (blockLawful_idle_iff hseq).mp h
    exact blockLawful_of_atRest hrest hbank ⟨hcount, le_rfl, hothers⟩
  · exact startMove_lawful p btn (tickTimer_lawful h hseq) hseq hack
      (by simp [ContLawful, hdown, hauto, htimer])
  · exact tickTimer_lawful h hseq
  · exact h

theorem tickBlock_lawful (p : LegalParams) (btn wp bp : Bool) {b : Block} (h : BlockLawful p.val b)
    (hseq : b.seq = .idle) : BlockLawful p.val (tickBlock p.val btn wp bp b) :=
  applyTransition_lawful p btn _ (evaluate_lawful p wp bp h hseq) (by rw [evaluate_frame]; exact hseq)
    (by rw [evaluate_frame])

/-! ### `STEP` -/

/-- The reset block is lawful (R248). -/
theorem blockLawful_reset (p : Params) : BlockLawful p (Block.reset p) := by
  refine blockLawful_of_atRest ⟨.none, rfl⟩ (bankLawful_of_clear rfl) ?_
  simp [CountersLawful, Block.reset]

/-- A `STEP` within a sequence moves the phase, the count, the recorded press and the power: it keeps
the invariant where it keeps their bounds (R191, R39). -/
theorem blockLawful_advance {p : Params} {b : Block} (h : BlockLawful p b) (hseq : b.seq ≠ .idle)
    {q : Phase} {n : U16} {pressed pwr : Bool} (hq : q ≠ .idle) (hpwr : pwr = true ↔ q = .travel)
    (hcount : CountLawful p
      { b with seq := q, seqCnt := n, seqPressed := pressed, drvPwr := pwr }) :
    BlockLawful p { b with seq := q, seqCnt := n, seqPressed := pressed, drvPwr := pwr } := by
  obtain ⟨⟨-, hrelay, -, hrunning⟩, -, hcont, hbank, hmemory, htimer, hackLe, hack, hflags⟩ := h
  exact ⟨⟨hpwr, iff_of_true (hrelay.mpr hseq) hq, fun hidle => absurd hidle hq, fun _ => hrunning hseq⟩,
    hcount, hcont, hbank, hmemory, htimer, hackLe, fun _ => hack hseq, hflags⟩

/-- A count that goes on stays within its phase's bounds (R39). -/
theorem countedDown_countLawful {p : Params} {b : Block} (h : CountLawful p b)
    (hseq : b.seq = .settle1 ∨ b.seq = .travel ∨ b.seq = .settle2) (hcnt : countedDown p b ≠ 0#16) :
    CountLawful p { b with seqCnt := countedDown p b } := by
  obtain ⟨hsettle1, htravel, hsettle2, hwait⟩ := h
  have hpos : b.seqCnt ≠ 0#16 := by
    have hone : 1 ≤ b.seqCnt.toNat := by
      rcases hseq with hseq | hseq | hseq
      · exact (hsettle1 hseq).1
      · exact (htravel hseq).1
      · exact (hsettle2 hseq).1
    bv_omega
  have hless := countedDown_toNat p b hpos
  have hone : 1 ≤ (countedDown p b).toNat := by bv_omega
  refine ⟨fun hq => ?_, fun hq => ?_, fun hq => ?_, fun hq => ?_⟩ <;> dsimp only at hq ⊢
  · obtain ⟨-, hle, hpressed⟩ := hsettle1 hq
    exact ⟨hone, by omega, hpressed⟩
  · obtain ⟨-, hle, hpressed⟩ := htravel hq
    exact ⟨hone, by omega, hpressed⟩
  · obtain ⟨-, hle⟩ := hsettle2 hq
    exact ⟨hone, by omega⟩
  · rw [hq] at hseq
    simp at hseq

/-- Every branch of `STEP` keeps the invariant. -/
theorem StepEffect.lawful {p : LegalParams} {btn : Bool} {b : Block} {r : Block × U16}
    (heffect : StepEffect p.val btn b r) (h : BlockLawful p.val b) : BlockLawful p.val r.1 := by
  obtain ⟨-, -, -, -, -, hpost⟩ := legal_ranges p
  have hfed := refreshWatchdog_lawful h
  have ⟨⟨hpwr, _⟩, hphase, _⟩ := hfed
  cases heffect with
  | reset => exact blockLawful_reset p.val
  | idleCount hseq hack =>
    obtain ⟨hrest, hbank, hcount, htimer, hackLe, -, hflags⟩ := (blockLawful_idle_iff hseq).mp h
    refine blockLawful_of_atRest hrest hbank
      ⟨hcount, htimer, ?_, fun hbusy => absurd hseq hbusy, hflags⟩
    dsimp only
    bv_omega
  | count hseq hcnt =>
    have hbusy : b.seq ≠ .idle := by rcases hseq with hseq | hseq | hseq <;> simp [hseq]
    refine blockLawful_advance hfed hbusy hbusy hpwr ?_
    exact countedDown_countLawful (b := refreshWatchdog p.val b) hphase hseq hcnt
  | powerOn hseq =>
    obtain ⟨-, -, hpressed⟩ := hphase.1 hseq
    refine blockLawful_advance hfed (by simp [hseq]) (by simp) (by simp) ?_
    simpa [CountLawful, one_le_travelTime] using hpressed
  | press hseq =>
    refine blockLawful_advance hfed (by simp [hseq]) (by simp) (by simp) ?_
    simp [CountLawful, hpost]
  | arrive hseq =>
    refine blockLawful_advance hfed (by simp [hseq]) (by simp) (by simp) ?_
    simp [CountLawful, hpost]
  | hold hseq hcnt hpressed =>
    refine blockLawful_advance hfed (by simp [hseq]) (by simp) ?_ ?_
    · simpa [hseq] using hpwr
    · simp [CountLawful, hpressed]
  | wait => exact hfed
  | complete => exact finish_lawful _ hfed
  | interrupt => exact finish_lawful _ hfed

/-! ### Every step -/

/-- `SAMPLE` writes nothing that the invariant speaks of (R234). -/
theorem sampleBlock_lawful {p : Params} {b : Block} (ch : Channel) (raw : U16) (h : BlockLawful p b) :
    BlockLawful p (sampleBlock p ch raw b) := by
  rw [sampleBlock_frame]
  exact h

/-- A `MOVE` arms no continuation (R181). -/
theorem startMove_refreshed_lawful (p : LegalParams) (btn : Bool) (d : Direction) {b : Block}
    (h : BlockLawful p.val b) (hseq : b.seq = .idle) :
    BlockLawful p.val (startMove p.val btn d .none (refreshWatchdog p.val b)) :=
  startMove_lawful p btn (refreshWatchdog_lawful h) hseq rfl (by simp [ContLawful])

theorem Effect.lawful {p : LegalParams} {btn : Bool} {b b' : Block} {i : Instr}
    (heffect : Effect p.val btn b i b') (h : BlockLawful p.val b) : BlockLawful p.val b' := by
  cases heffect with
  | unchanged => exact h
  | sample ch raw => exact sampleBlock_lawful ch raw h
  | tick wp bp hseq => exact tickBlock_lawful p btn wp bp h hseq
  | move d hseq => exact startMove_refreshed_lawful p btn d h hseq
  | step r hstep => exact hstep.lawful h
  | wdgack => exact refreshWatchdog_lawful h

/-- Settles O14: the record of a step's two states is the same, and its block is lawful by
`Effect.lawful`. -/
theorem everyStepKeepsTheInvariants : Obligations.EveryStepKeepsTheInvariants := by
  intro s t hlawful hstep
  obtain ⟨hcfg, hsame | ⟨i, -, heffect⟩⟩ := step_effect hstep <;> unfold Lawful <;> rw [hcfg]
  · rw [hsame]
    exact hlawful
  · exact heffect.lawful hlawful

end Sys2Proof.Proofs
end

section
/-! PROOFS. The operations that read (20_memory.md R66, R67) and the registers a `SAMPLE` leaves alone
(40_filter_bank.md R113, R116). -/

namespace Sys2Proof.Proofs

open Sys2Proof.Machine

/-! ### The registers of the filter bank -/

/-- No two channels share a `filt` register (R61). -/
theorem channelIndex_injective : Function.Injective channelIndex := by
  intro ch ch'
  cases ch <;> cases ch' <;> decide

theorem readFilt_writeFilt_of_ne {ch ch' : Channel} (h : ch' ≠ ch) (b : Block) (v : U16) :
    readFilt (writeFilt b ch v) ch' = readFilt b ch' := by
  have hindex : (channelIndex ch).val ≠ (channelIndex ch').val := fun heq =>
    h (channelIndex_injective (Fin.val_injective heq)).symm
  exact Vector.getElem_set_ne (channelIndex ch).isLt (channelIndex ch').isLt hindex

theorem readPrev_writePrev_of_ne {i j : Fin 2} (h : i ≠ j) (b : Block) (v : U16) :
    readPrev (writePrev b i v) j = readPrev b j :=
  Vector.getElem_set_ne i.isLt j.isLt (Fin.val_injective.ne h)

/-- `SAMPLE` of a water channel (R112, R113). -/
theorem sampleBlock_of_water {ch : Channel} {i : Fin 2} (h : waterIndex ch = some i) (p : Params)
    (raw : U16) (b : Block) :
    sampleBlock p ch raw b
      = writeFilt (writePrev b i raw) ch
          (iir (readFilt b ch) (absdiff raw (readPrev b i)) p.aSlowQ15) := by
  rw [sampleBlock, h]

/-- `SAMPLE` of a pot channel (R113). -/
theorem sampleBlock_of_pot {ch : Channel} (h : waterIndex ch = none) (p : Params) (raw : U16)
    (b : Block) :
    sampleBlock p ch raw b = writeFilt b ch (iir (readFilt b ch) raw p.aFastQ15) := by
  rw [sampleBlock, h]

/-- A `SAMPLE` leaves the `filt` registers of the other channels as they were. -/
theorem readFilt_sampleBlock_of_ne {ch ch' : Channel} (h : ch' ≠ ch) (p : Params) (raw : U16)
    (b : Block) : readFilt (sampleBlock p ch raw b) ch' = readFilt b ch' := by
  cases hwater : waterIndex ch with
  | some i =>
    rw [sampleBlock_of_water hwater, readFilt_writeFilt_of_ne h]
    rfl
  | none => rw [sampleBlock_of_pot hwater, readFilt_writeFilt_of_ne h]

/-- And the `prev` registers that are not its channel's. -/
theorem readPrev_sampleBlock_of_ne {ch : Channel} {j : Fin 2} (h : waterIndex ch ≠ some j) (p : Params)
    (raw : U16) (b : Block) : readPrev (sampleBlock p ch raw b) j = readPrev b j := by
  cases hwater : waterIndex ch with
  | some i =>
    have hij : i ≠ j := fun heq => h (heq ▸ hwater)
    rw [sampleBlock_of_water hwater]
    exact readPrev_writePrev_of_ne hij b raw
  | none =>
    rw [sampleBlock_of_pot hwater]
    rfl

/-! ### Reading -/

theorem exec_sample (ch : Channel) (raw : U16) (s : State) :
    exec (.sample ch raw) s = .next (s.answered (sampleBlock s.cfg.val ch raw s.blk) .ok
      (readFilt (sampleBlock s.cfg.val ch raw s.blk) ch)) := rfl

theorem exec_rdfilt (ch : Channel) (s : State) :
    exec (.rdfilt ch) s = .next (s.answered s.blk .ok (readFilt s.blk ch)) := rfl

/-- Settles O19: `RDFILT` reads the register that the `SAMPLE` wrote and answered. -/
theorem readFilterAnswersTheLastSample : Obligations.ReadFilterAnswersTheLastSample := by
  refine ⟨fun s ch => exec_rdfilt ch s, fun s ch raw => ⟨_, exec_sample ch raw s, ⟨_, exec_rdfilt ch _, rfl, rfl⟩, ?_⟩⟩
  exact fun ch' hne => readFilt_sampleBlock_of_ne hne s.cfg.val raw s.blk

/-- Settles O26: each of the three answers with the block it found, and the answer is read off that
block. -/
theorem readsHaveNoEffect : Obligations.ReadsHaveNoEffect := by
  rintro i s (rfl | ⟨ch, rfl⟩ | ⟨idx, rfl⟩)
  · exact ⟨_, rfl, rfl, rfl, rfl⟩
  · exact ⟨_, exec_rdfilt ch s, rfl, rfl, rfl⟩
  · cases hview : statusRegister s.cfg.val s.blk idx with
    | some v =>
      exact ⟨_, exec_rdstat_of_some hview, rfl, rfl,
        exec_rdstat_of_some (s := s.answered s.blk .ok v) hview⟩
    | none =>
      exact ⟨_, exec_rdstat_of_none hview, rfl, rfl,
        exec_rdstat_of_none (s := s.answered s.blk .illegal 0#16) hview⟩

end Sys2Proof.Proofs
end

section
/-! PROOFS. The command port (20_memory.md R66, R68, R69): what an operation answers does not depend on
what is still pending, so a run over the pending presentations presents them one by one. -/

namespace Sys2Proof.Proofs

open Sys2Proof.Machine

/-! ### One step and the port -/

theorem step_of_exec {s t : State} {i : Instr} (hdecode : decode s.port.cmd = .ok i)
    (hexec : exec i s = .next t) : step s = .next t.advance := by
  simp [step, hdecode, hexec]

/-- On a port with nothing pending the idle word follows, `btn` as it was (log 3, log 4). -/
theorem advance_of_nil {s : State} (h : s.port.pending = []) :
    s.advance = { s with port := { s.port with cmd := Port.idleWord } } := by
  rw [State.advance, Port.advance_of_nil _ h]

theorem advance_of_cons {s : State} {x : Input} {rest : List Input}
    (h : s.port.pending = x :: rest) :
    s.advance = { s with port := { s.port with cmd := x.cmd, btn := x.btn, pending := rest } } := by
  rw [State.advance, Port.advance_of_cons _ _ _ h]

/-- Settles O6: an answer keeps the pending presentations, so the port advances to the first of them. -/
theorem stepRunsTheDecodedOperation : Obligations.StepRunsTheDecodedOperation := by
  intro s i hdecode
  obtain ⟨b, st, d, hexec⟩ := exec_answers i s
  refine ⟨s.answered b st d, hexec, rfl, fun hnil => ?_, fun x rest hcons => ?_⟩ <;>
    rw [step_of_exec hdecode hexec]
  · rw [advance_of_nil (s := s.answered b st d) hnil]
    rfl
  · rw [advance_of_cons (s := s.answered b st d) hcons]

/-! ### What an answer depends on -/

/-- An operation answers by the parameters, the block and `btn`, and by nothing else of the port. -/
theorem exec_answers_alike {s t : State} (hcfg : t.cfg = s.cfg) (hblk : t.blk = s.blk)
    (hbtn : t.port.btn = s.port.btn) (i : Instr) :
    ∃ b st d, exec i s = .next (s.answered b st d) ∧ exec i t = .next (t.answered b st d) := by
  obtain ⟨_, _, _, _, pending, resp⟩ := s
  obtain ⟨cfg, blk, _, btn, pending', resp'⟩ := t
  dsimp only at hcfg hblk hbtn
  subst hcfg hblk hbtn
  cases i with
  | nop => exact ⟨_, _, _, rfl, rfl⟩
  | sample ch raw => exact ⟨_, _, _, rfl, rfl⟩
  | rdfilt ch => exact ⟨_, _, _, rfl, rfl⟩
  | step => exact ⟨_, _, _, rfl, rfl⟩
  | wdgack => exact ⟨_, _, _, rfl, rfl⟩
  | tick1s wp bp =>
    by_cases hseq : blk.seq = .idle
    · exact ⟨_, _, _, exec_tick1s_of_idle wp bp _ hseq, exec_tick1s_of_idle wp bp _ hseq⟩
    · exact ⟨_, _, _, exec_tick1s_of_busy wp bp _ hseq, exec_tick1s_of_busy wp bp _ hseq⟩
  | move dir =>
    by_cases hseq : blk.seq = .idle
    · exact ⟨_, _, _, exec_move_of_idle dir _ hseq, exec_move_of_idle dir _ hseq⟩
    · exact ⟨_, _, _, exec_move_of_busy dir _ hseq, exec_move_of_busy dir _ hseq⟩
  | rdstat idx =>
    cases hview : statusRegister cfg.val blk idx with
    | some v => exact ⟨_, _, _, exec_rdstat_of_some hview, exec_rdstat_of_some hview⟩
    | none => exact ⟨_, _, _, exec_rdstat_of_none hview, exec_rdstat_of_none hview⟩

/-- Nor does a step depend on more than these and the word. -/
theorem step_answers_alike {s t : State} (hcfg : t.cfg = s.cfg) (hblk : t.blk = s.blk)
    (hcmd : t.port.cmd = s.port.cmd) (hbtn : t.port.btn = s.port.btn) :
    ∃ b st d, step s = .next (s.answered b st d).advance
      ∧ step t = .next (t.answered b st d).advance := by
  cases hdecode : decode s.port.cmd with
  | ok i =>
    obtain ⟨b, st, d, hs, ht⟩ := exec_answers_alike hcfg hblk hbtn i
    exact ⟨b, st, d, step_of_exec hdecode hs, step_of_exec (hcmd ▸ hdecode) ht⟩
  | error e =>
    refine ⟨s.blk, .illegal, 0#16, ?_, ?_⟩
    · simp [step, hdecode, State.refuse]
    · simp [step, hcmd, hdecode, hblk, State.refuse]

/-! ### A run over the pending presentations -/

/-- The environment presents `i` now and `rest` after it (log 3). -/
def presentAll (s : State) (i : Input) (rest : List Input) : State :=
  { s with port := { s.port with cmd := i.cmd, btn := i.btn, pending := rest } }

theorem presentAll_nil {s : State} (h : s.port.pending = []) (i : Input) :
    presentAll s i [] = s.present i := by
  rw [presentAll, State.present, ← h]

/-- A step with more pending leads to where a single presentation leads, the next one presented. -/
theorem step_presentAll_cons {s : State} (h : s.port.pending = []) (i x : Input) (rest : List Input) :
    ∃ t, presentAndStep i s = .next t ∧ t.port.pending = []
      ∧ step (presentAll s i (x :: rest)) = .next (presentAll t x rest) := by
  obtain ⟨b, st, d, hone, hall⟩ := step_answers_alike (s := s.present i)
    (t := presentAll s i (x :: rest)) rfl rfl rfl rfl
  have hnil : ((s.present i).answered b st d).port.pending = [] := h
  rw [advance_of_nil hnil] at hone
  exact ⟨_, hone, h, hall⟩

theorem core_run_succ {M : Host.Core} {s t : M.State} (h : M.step s = .next t) (k : Nat) :
    M.run (k + 1) s = M.run k t := by
  rw [Host.Core.run, h]

theorem drive_cons {s t : State} {i : Input} (h : presentAndStep i s = .next t) (rest : List Input) :
    drive (i :: rest) s = drive rest t := by
  rw [drive, h]

/-- Settles O55, by induction on what is pending. -/
theorem portRunsItsPresentationsInOrder : Obligations.PortRunsItsPresentationsInOrder := by
  intro s i rest
  change s.port.pending = [] → Host.Core.run core (rest.length + 1)
    (presentAll s i rest) = drive (i :: rest) s
  induction rest generalizing s i with
  | nil =>
    intro hnil
    obtain ⟨b, st, d, hstep⟩ := step_eq_next_answered (s.present i)
    rw [presentAll_nil hnil, drive_cons hstep]
    exact core_run_succ (M := core) hstep 0
  | cons x rest ih =>
    intro hnil
    obtain ⟨t, hone, hpending, hall⟩ := step_presentAll_cons hnil i x rest
    rw [drive_cons hone]
    exact (core_run_succ (M := core) hall _).trans (ih t x hpending)

end Sys2Proof.Proofs
end

section
/-! PROOFS. `SAMPLE` and the operations it commutes with (20_memory.md R70): such an operation neither reads
nor writes what the `SAMPLE` writes, so it does the same to the block whatever the filter bank holds. -/

namespace Sys2Proof.Proofs

open Sys2Proof.Machine

theorem waterIndex_eq_zero {ch : Channel} (h : waterIndex ch = some 0) : ch = .waterRef := by
  cases ch <;> simp [waterIndex] at h ⊢

theorem waterIndex_eq_one {ch : Channel} (h : waterIndex ch = some 1) : ch = .waterMeasure := by
  cases ch <;> simp [waterIndex] at h ⊢

/-! ### Another filter bank -/

/-- The block `b` with the filter bank of `c` (R23). -/
def withFilterBankOf (c b : Block) : Block := { b with filt := c.filt, prev := c.prev }

/-- What a `SAMPLE` writes depends on the filter bank alone (R113, R234). -/
theorem sampleBlock_eq_withFilterBankOf (p : Params) (ch : Channel) (raw : U16) {b b' : Block}
    (hfilt : b'.filt = b.filt) (hprev : b'.prev = b.prev) :
    sampleBlock p ch raw b' = withFilterBankOf (sampleBlock p ch raw b) b' := by
  rw [sampleBlock_frame, withFilterBankOf]
  cases hwater : waterIndex ch with
  | some i => simp [sampleBlock_of_water hwater, readFilt, readPrev, hfilt, hprev]
  | none => simp [sampleBlock_of_pot hwater, readFilt, hfilt, hprev]

/-- A `SAMPLE` replaces the filter bank. -/
theorem sampleBlock_eq_withFilterBankOf_self (p : Params) (ch : Channel) (raw : U16) (b : Block) :
    sampleBlock p ch raw b = withFilterBankOf (sampleBlock p ch raw b) b :=
  sampleBlock_eq_withFilterBankOf p ch raw rfl rfl

@[simp] theorem withFilterBankOf_gt (c b : Block) : (withFilterBankOf c b).gt = b.gt := rfl
@[simp] theorem withFilterBankOf_gnext (c b : Block) : (withFilterBankOf c b).gnext = b.gnext := rfl
@[simp] theorem withFilterBankOf_seq (c b : Block) : (withFilterBankOf c b).seq = b.seq := rfl

/-! ### The procedures that see no filter register -/

section UnseenFilterBank

variable (c : Block) (p : Params)

/-- The count does not see the filter bank, its free value included (R70; log 7). -/
theorem countedDown_withFilterBankOf (b : Block) :
    countedDown p (withFilterBankOf c b) = countedDown p b := rfl

theorem refreshWatchdog_withFilterBankOf (b : Block) :
    refreshWatchdog p (withFilterBankOf c b) = withFilterBankOf c (refreshWatchdog p b) := rfl

theorem applyCont_withFilterBankOf (cont : Sys2Proof.Machine.Cont) (res : ActResult) (b : Block) :
    applyCont p cont res (withFilterBankOf c b) = withFilterBankOf c (applyCont p cont res b) := by
  cases cont <;> cases res <;> rfl

theorem finish_withFilterBankOf (res : ActResult) (b : Block) :
    finish p res (withFilterBankOf c b) = withFilterBankOf c (finish p res b) :=
  applyCont_withFilterBankOf c p b.seqCont res (endSequence res b)

theorem startMove_withFilterBankOf (btn : Bool) (dir : Direction) (cont : Sys2Proof.Machine.Cont)
    (b : Block) :
    startMove p btn dir cont (withFilterBankOf c b) = withFilterBankOf c (startMove p btn dir cont b) := by
  cases btn with
  | true => exact applyCont_withFilterBankOf c p cont .interrupted { b with lastResult := .interrupted }
  | false => rfl

theorem applyTransition_withFilterBankOf (btn : Bool) (t : Transition) (b : Block) :
    applyTransition p btn t (withFilterBankOf c b) = withFilterBankOf c (applyTransition p btn t b) := by
  cases t with
  | raise => exact startMove_withFilterBankOf ..
  | lower =>
    exact startMove_withFilterBankOf c p btn .down .lower
      { b with autoDownTimer := tickTimer b.autoDownTimer }
  | defer => rfl
  | count => rfl
  | nothing => rfl

theorem settle1Step_withFilterBankOf (b : Block) :
    settle1Step p (withFilterBankOf c b) = (settle1Step p b).map (withFilterBankOf c) id := by
  simp only [settle1Step, countedDown_withFilterBankOf, Prod.map, apply_ite (withFilterBankOf c)]
  rfl

theorem travelStep_withFilterBankOf (btn : Bool) (b : Block) :
    travelStep p btn (withFilterBankOf c b) = (travelStep p btn b).map (withFilterBankOf c) id := by
  cases btn with
  | true => rfl
  | false =>
    simp only [travelStep, countedDown_withFilterBankOf, Prod.map, apply_ite (withFilterBankOf c)]
    rfl

theorem settle2Step_withFilterBankOf (btn : Bool) (b : Block) :
    settle2Step p btn (withFilterBankOf c b) = (settle2Step p btn b).map (withFilterBankOf c) id := by
  simp only [settle2Step, countedDown_withFilterBankOf, finish_withFilterBankOf,
    apply_ite (Prod.map (withFilterBankOf c) id)]
  rfl

theorem waitRelStep_withFilterBankOf (btn : Bool) (b : Block) :
    waitRelStep p btn (withFilterBankOf c b) = (waitRelStep p btn b).map (withFilterBankOf c) id := by
  cases btn with
  | true => rfl
  | false => simp [waitRelStep, finish_withFilterBankOf]

/-- `STEP` does the same whatever the filter bank holds, the watchdog reset apart, which clears it. -/
theorem stepBlock_withFilterBankOf (btn : Bool) {b : Block}
    (hreset : ¬ (b.seq = .idle ∧ b.wdgAck = 0#16)) :
    stepBlock p btn (withFilterBankOf c b) = (stepBlock p btn b).map (withFilterBankOf c) id := by
  cases hseq : b.seq with
  | idle =>
    have hack : b.wdgAck ≠ 0#16 := fun hack => hreset ⟨hseq, hack⟩
    simp [stepBlock, hseq, idleStep, hack, withFilterBankOf]
  | settle1 => simp [stepBlock, hseq, refreshWatchdog_withFilterBankOf, settle1Step_withFilterBankOf]
  | travel => simp [stepBlock, hseq, refreshWatchdog_withFilterBankOf, travelStep_withFilterBankOf]
  | settle2 => simp [stepBlock, hseq, refreshWatchdog_withFilterBankOf, settle2Step_withFilterBankOf]
  | waitRel => simp [stepBlock, hseq, refreshWatchdog_withFilterBankOf, waitRelStep_withFilterBankOf]

end UnseenFilterBank

/-! ### The evaluation, which reads every filter register but that of channel 2 -/

section Evaluation

variable {c : Block} (p : Params)

/-- The two blocks agree on the registers that an evaluation reads (R147). -/
def SameWaterInputs (b c : Block) : Prop :=
  ∀ ch, ch ≠ .windThresholdPot → readFilt c ch = readFilt b ch

theorem manualOverride_withFilterBankOf (bp : Bool) (b : Block) :
    manualOverride bp (withFilterBankOf c b) = withFilterBankOf c (manualOverride bp b) := by
  cases bp <;> rfl

theorem waterPolicy_withFilterBankOf (justManual : Bool) (wd : Nat) (sp thr : U16) (b : Block) :
    waterPolicy p justManual wd sp thr (withFilterBankOf c b)
      = withFilterBankOf c (waterPolicy p justManual wd sp thr b) := by
  simp only [waterPolicy, apply_ite (withFilterBankOf c)]
  rfl

theorem water_withFilterBankOf (justManual : Bool) {b : Block} (h : SameWaterInputs b c) :
    water p justManual (withFilterBankOf c b) = (water p justManual b).map (withFilterBankOf c) id := by
  have href : readFilt (withFilterBankOf c b) .waterRef = readFilt b .waterRef := h _ (by decide)
  have hmeasure : readFilt (withFilterBankOf c b) .waterMeasure = readFilt b .waterMeasure :=
    h _ (by decide)
  have hsp : readFilt (withFilterBankOf c b) .waterThresholdPot = readFilt b .waterThresholdPot :=
    h _ (by decide)
  rw [water, href, hmeasure, hsp]
  have hpolicy := waterPolicy_withFilterBankOf (c := c) p justManual
    (waterRatio (readFilt b .waterRef) (readFilt b .waterMeasure)) (readFilt b .waterThresholdPot)
    (snapOnRotation p (readFilt b .waterThresholdPot) b.spD2 b.threshold)
    { b with setpoint := readFilt b .waterThresholdPot, spD2 := b.spD1
             spD1 := readFilt b .waterThresholdPot }
  exact Prod.ext hpolicy rfl

theorem allocateEvent_withFilterBankOf (b : Block) :
    allocateEvent p (withFilterBankOf c b) = withFilterBankOf c (allocateEvent p b) := by
  simp only [allocateEvent, withFilterBankOf_gt, withFilterBankOf_gnext]
  split <;> rfl

theorem gust_withFilterBankOf (wp : Bool) (b : Block) :
    gust p wp (withFilterBankOf c b) = (gust p wp b).map (withFilterBankOf c) id := by
  simp only [gust, apply_ite (Prod.map (withFilterBankOf c) id), Prod.map_apply,
    ← allocateEvent_withFilterBankOf]
  rfl

theorem evaluate_withFilterBankOf (wp bp : Bool) {b : Block} (h : SameWaterInputs b c) :
    evaluate p wp bp (withFilterBankOf c b)
      = { evaluate p wp bp b with blk := withFilterBankOf c (evaluate p wp bp b).blk } := by
  have hinputs : SameWaterInputs (manualOverride bp (refreshWatchdog p b)) c := by
    cases bp <;> exact h
  have hwater := water_withFilterBankOf p bp hinputs
  rw [← manualOverride_withFilterBankOf] at hwater
  unfold evaluate
  rw [refreshWatchdog_withFilterBankOf, hwater]
  generalize water p bp (manualOverride bp (refreshWatchdog p b)) = w
  have hcount (n : BitVec 3) : { withFilterBankOf c w.1 with waterAlarmCount := n }
      = withFilterBankOf c { w.1 with waterAlarmCount := n } := rfl
  dsimp only [Prod.map, id]
  rw [hcount, gust_withFilterBankOf]
  rfl

theorem tickBlock_withFilterBankOf (btn wp bp : Bool) {b : Block} (h : SameWaterInputs b c) :
    tickBlock p btn wp bp (withFilterBankOf c b) = withFilterBankOf c (tickBlock p btn wp bp b) := by
  rw [tickBlock, evaluate_withFilterBankOf p wp bp h]
  exact applyTransition_withFilterBankOf ..

end Evaluation

/-! ### The status view -/

/-- The view shows the filter bank at indices 11 and 12 only (R50). -/
theorem statusRegister_withFilterBankOf {c b : Block} {idx : BitVec 5} (p : Params)
    (h0 : idx = 11 → readPrev c 0 = readPrev b 0) (h1 : idx = 12 → readPrev c 1 = readPrev b 1) :
    statusRegister p (withFilterBankOf c b) idx = statusRegister p b idx := by
  unfold statusRegister
  split
  case h_12 n hn => exact congrArg some (h0 (BitVec.eq_of_toNat_eq hn))
  case h_13 n hn => exact congrArg some (h1 (BitVec.eq_of_toNat_eq hn))
  all_goals rfl

/-! ### Commutation -/

/-- The operation does the same and answers the same when it finds the filter bank of `c` instead. -/
def BlindTo (c : Block) (i : Instr) (s : State) : Prop :=
  ∃ b st d, exec i s = .next (s.answered b st d)
    ∧ ∀ st' d', exec i (s.answered (withFilterBankOf c s.blk) st' d')
        = .next (s.answered (withFilterBankOf c b) st d)

section BlindTo

variable {c : Block} {s : State}

theorem blindTo_nop : BlindTo c .nop s := ⟨_, _, _, rfl, fun _ _ => rfl⟩

theorem blindTo_wdgack : BlindTo c .wdgack s := ⟨_, _, _, rfl, fun _ _ => rfl⟩

theorem blindTo_move (dir : Direction) : BlindTo c (.move dir) s := by
  by_cases hseq : s.blk.seq = .idle
  · refine ⟨_, _, _, exec_move_of_idle dir s hseq, fun st d => ?_⟩
    rw [← startMove_withFilterBankOf]
    exact exec_move_of_idle dir (s.answered (withFilterBankOf c s.blk) st d) hseq
  · exact ⟨_, _, _, exec_move_of_busy dir s hseq, fun st d =>
      exec_move_of_busy dir (s.answered (withFilterBankOf c s.blk) st d) hseq⟩

theorem blindTo_step (h : ¬ (s.blk.seq = .idle ∧ s.blk.wdgAck = 0#16)) : BlindTo c .step s := by
  refine ⟨_, _, _, exec_step s, fun st d => ?_⟩
  have hstep := stepBlock_withFilterBankOf c s.cfg.val s.port.btn h
  rw [exec_step, State.answered_cfg, State.answered_port_btn, State.answered_blk, hstep]
  rfl

theorem blindTo_rdfilt {ch : Channel} (h : readFilt c ch = readFilt s.blk ch) :
    BlindTo c (.rdfilt ch) s := by
  refine ⟨_, _, _, exec_rdfilt ch s, fun st d => ?_⟩
  rw [← h]
  rfl

theorem blindTo_rdstat {idx : BitVec 5} (h0 : idx = 11 → readPrev c 0 = readPrev s.blk 0)
    (h1 : idx = 12 → readPrev c 1 = readPrev s.blk 1) : BlindTo c (.rdstat idx) s := by
  have hview := statusRegister_withFilterBankOf s.cfg.val h0 h1
  cases hshown : statusRegister s.cfg.val s.blk idx with
  | some v =>
    exact ⟨_, _, _, exec_rdstat_of_some hshown, fun st d =>
      exec_rdstat_of_some (s := s.answered (withFilterBankOf c s.blk) st d) (hview.trans hshown)⟩
  | none =>
    exact ⟨_, _, _, exec_rdstat_of_none hshown, fun st d =>
      exec_rdstat_of_none (s := s.answered (withFilterBankOf c s.blk) st d) (hview.trans hshown)⟩

theorem blindTo_tick1s (wp bp : Bool) (h : SameWaterInputs s.blk c) : BlindTo c (.tick1s wp bp) s := by
  by_cases hseq : s.blk.seq = .idle
  · refine ⟨_, _, _, exec_tick1s_of_idle wp bp s hseq, fun st d => ?_⟩
    have htick := exec_tick1s_of_idle wp bp (s.answered (withFilterBankOf c s.blk) st d) hseq
    rw [State.answered_cfg, State.answered_port_btn, State.answered_blk,
      tickBlock_withFilterBankOf _ _ _ _ h, evaluate_withFilterBankOf _ _ _ h] at htick
    exact htick
  · exact ⟨_, _, _, exec_tick1s_of_busy wp bp s hseq, fun st d =>
      exec_tick1s_of_busy wp bp (s.answered (withFilterBankOf c s.blk) st d) hseq⟩

end BlindTo

/-- An operation that does not see what a `SAMPLE` writes, and does not write the filter bank itself,
commutes with it. -/
theorem sample_commutes_of_blindTo {ch : Channel} {raw : U16} {i : Instr} {s : State}
    (hblind : BlindTo (sampleBlock s.cfg.val ch raw s.blk) i s)
    (hsample : ∀ ch raw, i ≠ .sample ch raw)
    (hreset : i = .step → ¬ (s.blk.seq = .idle ∧ s.blk.wdgAck = 0#16)) :
    ∃ a b c d, exec (.sample ch raw) s = .next a ∧ exec i a = .next b
      ∧ exec i s = .next c ∧ exec (.sample ch raw) c = .next d
      ∧ b.blk = d.blk ∧ a.port.resp = d.port.resp ∧ b.port.resp = c.port.resp := by
  obtain ⟨b, st, d, hplain, hsampled⟩ := hblind
  obtain ⟨hfilt, hprev⟩ : b.filt = s.blk.filt ∧ b.prev = s.blk.prev :=
    ((effect_of_exec hplain).filterBank hsample).resolve_right fun ⟨hi, hidle⟩ => hreset hi hidle
  have hwrites := sampleBlock_eq_withFilterBankOf s.cfg.val ch raw hfilt hprev
  have hfirst := exec_sample ch raw s
  rw [sampleBlock_eq_withFilterBankOf_self] at hfirst
  refine ⟨_, _, _, _, hfirst, hsampled _ _, hplain, exec_sample ch raw _, hwrites.symm, ?_, rfl⟩
  simp only [State.answered_cfg, State.answered_blk, State.answered_port_resp, hwrites]
  rfl

/-- Settles O27: each operation named is blind to what the `SAMPLE` writes, a read and an evaluation because
they look at other registers. -/
theorem sampleCommutes : Obligations.SampleCommutes := by
  rintro s ch raw i (rfl | rfl | ⟨d, rfl⟩ | ⟨rfl, hreset⟩ | ⟨ch', rfl, hne⟩ | ⟨idx, rfl, h0, h1⟩ |
    ⟨rfl, wp, bp, rfl⟩)
  · exact sample_commutes_of_blindTo blindTo_nop nofun nofun
  · exact sample_commutes_of_blindTo blindTo_wdgack nofun nofun
  · exact sample_commutes_of_blindTo (blindTo_move d) nofun nofun
  · exact sample_commutes_of_blindTo (blindTo_step hreset) nofun fun _ => hreset
  · exact sample_commutes_of_blindTo (blindTo_rdfilt (readFilt_sampleBlock_of_ne hne _ raw _))
      nofun nofun
  · refine sample_commutes_of_blindTo (blindTo_rdstat (fun hidx => ?_) fun hidx => ?_) nofun nofun
    · exact readPrev_sampleBlock_of_ne (fun hwater => h0 ⟨hidx, waterIndex_eq_zero hwater⟩) ..
    · exact readPrev_sampleBlock_of_ne (fun hwater => h1 ⟨hidx, waterIndex_eq_one hwater⟩) ..
  · exact sample_commutes_of_blindTo
      (blindTo_tick1s wp bp fun ch' hne => readFilt_sampleBlock_of_ne hne _ raw _) nofun nofun

end Sys2Proof.Proofs
end

section
/-! PROOFS. The encoding (30_encoding.md): what one row of the opcode table says of a word, the decoder as
"the row admits the word and the operands are its fields", and the six statements from these. -/

namespace Sys2Proof.Proofs

open Sys2Proof.Machine

/-! ### The rows -/

theorem admits_iff (r : OpRow) (w : CmdWord) : r.admits w = true ↔ w &&& r.mask = r.pattern :=
  beq_iff_eq

theorem rowOf_mem_opcodeTable (i : Instr) : rowOf i ∈ opcodeTable := by
  cases i <;> simp [rowOf, opcodeTable]

theorem exists_rowOf_eq {r : OpRow} (h : r ∈ opcodeTable) : ∃ i, rowOf i = r := by
  simp only [opcodeTable, List.mem_cons, List.not_mem_nil, or_false] at h
  obtain rfl | rfl | rfl | rfl | rfl | rfl | rfl | rfl := h
  · exact ⟨.nop, rfl⟩
  · exact ⟨.sample .waterRef 0, rfl⟩
  · exact ⟨.rdfilt .waterRef, rfl⟩
  · exact ⟨.tick1s false false, rfl⟩
  · exact ⟨.move .down, rfl⟩
  · exact ⟨.step, rfl⟩
  · exact ⟨.wdgack, rfl⟩
  · exact ⟨.rdstat 0, rfl⟩

/-- The encoding of an operation matches the operation's row (R84). -/
theorem rowOf_admits_encode (i : Instr) : (rowOf i).admits (encode i) = true := by
  cases i with
  | nop => exact Laws.EncodedInRow.nop
  | sample ch raw => exact Laws.EncodedInRow.sample ch raw
  | rdfilt ch => exact Laws.EncodedInRow.rdfilt ch
  | tick1s wp bp => exact Laws.EncodedInRow.tick1s wp bp
  | move dir => exact Laws.EncodedInRow.move dir
  | step => exact Laws.EncodedInRow.step
  | wdgack => exact Laws.EncodedInRow.wdgack
  | rdstat idx => exact Laws.EncodedInRow.rdstat idx

/-! ### The opcode of a row (R81) -/

theorem opField_and (w m : CmdWord) : opField (w &&& m) = opField w &&& opField m :=
  BitVec.extractLsb'_and

/-- No row masks an opcode bit. -/
theorem opField_mask {r : OpRow} (h : r ∈ opcodeTable) : opField r.mask = BitVec.allOnes 4 := by
  revert r
  decide

theorem opField_eq_of_admits {r : OpRow} {w : CmdWord} (hr : r ∈ opcodeTable)
    (h : r.admits w = true) : opField w = opField r.pattern := by
  rw [← (admits_iff r w).mp h, opField_and, opField_mask hr, BitVec.and_allOnes]

theorem row_eq_of_opField_eq {r₁ r₂ : OpRow} (h₁ : r₁ ∈ opcodeTable) (h₂ : r₂ ∈ opcodeTable)
    (h : opField r₁.pattern = opField r₂.pattern) : r₁ = r₂ := by
  have hdistinct : ∀ r ∈ opcodeTable, ∀ r' ∈ opcodeTable,
      opField r.pattern = opField r'.pattern → r = r' := by decide
  exact hdistinct r₁ h₁ r₂ h₂ h

/-- Settles O4: a row fixes the opcode of the words it admits, and the rows' opcodes differ. -/
theorem opcodeRowsAreDisjoint : Obligations.OpcodeRowsAreDisjoint := by
  intro w r₁ r₂ hr₁ hr₂ h₁ h₂
  have hop₁ := opField_eq_of_admits hr₁ ((admits_iff r₁ w).mpr h₁)
  have hop₂ := opField_eq_of_admits hr₂ ((admits_iff r₂ w).mpr h₂)
  exact row_eq_of_opField_eq hr₁ hr₂ (hop₁.symm.trans hop₂)

/-! ### Operands (R83, R86, R87) -/

@[simp] theorem channelOfBits_channelBits (ch : Channel) : channelOfBits (channelBits ch) = ch := by
  cases ch <;> rfl

theorem channelOfBits_injective : Function.Injective channelOfBits := by
  unfold Function.Injective
  decide

@[simp] theorem directionOfBit_directionBit (d : Direction) : directionOfBit (directionBit d) = d := by
  cases d <;> rfl

theorem directionOfBit_injective : Function.Injective directionOfBit := by
  unfold Function.Injective
  decide

/-- The operation of `i`'s mnemonic with the operands that stand in `w`'s fields (R83). -/
def operandsFrom (w : CmdWord) : Instr → Instr
  | .nop => .nop
  | .sample _ _ => .sample (channelOfBits (chField w)) (rawField w)
  | .rdfilt _ => .rdfilt (channelOfBits (chField w))
  | .tick1s _ _ => .tick1s (wpField w) (bpField w)
  | .move _ => .move (directionOfBit (dirField w))
  | .step => .step
  | .wdgack => .wdgack
  | .rdstat _ => .rdstat (idxField w)

/-- The encoder puts each operand where its field is read (R82, R83). -/
theorem operandsFrom_encode (i : Instr) : operandsFrom (encode i) i = i := by
  cases i with
  | nop | step | wdgack => rfl
  | sample ch raw =>
    have hch : chField (encode (.sample ch raw)) = channelBits ch := by
      rw [chField, encode, BitVec.extractLsb'_append_eq_of_le (by decide),
        BitVec.extractLsb'_append_eq_of_le (by decide)]
      exact BitVec.extractLsb'_append_eq_right
    have hraw : rawField (encode (.sample ch raw)) = raw := BitVec.extractLsb'_append_eq_right
    simp [operandsFrom, hch, hraw]
  | rdfilt ch => cases ch <;> rfl
  | tick1s wp bp => cases wp <;> cases bp <;> rfl
  | move dir => cases dir <;> rfl
  | rdstat idx =>
    have hidx : idxField (encode (.rdstat idx)) = idx := BitVec.extractLsb'_append_eq_right
    simp [operandsFrom, hidx]

/-! ### The decoder (R96) -/

theorem underRow_eq_ok_iff {r : OpRow} {w : CmdWord} {i j : Instr} :
    underRow r w j = .ok i ↔ r.admits w = true ∧ j = i := by
  unfold underRow
  split <;> simp [*]

/-- The opcode chooses the row, and the row chooses the fields that are read (R81, R96). -/
theorem decode_of_opField_eq {w : CmdWord} {i : Instr} (h : opField w = opField (rowOf i).pattern) :
    decode w = underRow (rowOf i) w (operandsFrom w i) := by
  rw [decode, h]
  cases i <;> simp only [rowOf, operandsFrom] <;> rfl

theorem decode_of_admits {w : CmdWord} {i : Instr} (h : (rowOf i).admits w = true) :
    decode w = .ok (operandsFrom w i) := by
  rw [decode_of_opField_eq (opField_eq_of_admits (rowOf_mem_opcodeTable i) h)]
  exact underRow_eq_ok_iff.mpr ⟨h, rfl⟩

/-- A word decodes to `i` exactly when the row of `i` admits it and its fields hold the operands of `i`. -/
theorem decode_eq_ok_iff {w : CmdWord} {i : Instr} :
    decode w = .ok i ↔ (rowOf i).admits w = true ∧ operandsFrom w i = i := by
  constructor
  · intro h
    unfold decode at h
    split at h
    case h_9 => cases h
    all_goals
      obtain ⟨hrow, rfl⟩ := underRow_eq_ok_iff.mp h
      exact ⟨hrow, rfl⟩
  · rintro ⟨hrow, hi⟩
    rw [decode_of_admits hrow, hi]

/-- Settles O1: the encoding is in the operation's row, with each operand in its field. -/
theorem decodeOfEncode : Obligations.DecodeOfEncode := fun i =>
  decode_eq_ok_iff.mpr ⟨rowOf_admits_encode i, operandsFrom_encode i⟩

/-! ### A legal word is its row and its operands -/

/-- A row fixes every bit under its mask, so two of its words that agree in the other bits are equal. -/
theorem eq_of_admits {r : OpRow} {w w' : CmdWord} (h : r.admits w = true) (h' : r.admits w' = true)
    (hoperands : ∀ k < 24, r.mask.getLsbD k = false → w.getLsbD k = w'.getLsbD k) : w = w' := by
  have hmasked : w &&& r.mask = w' &&& r.mask :=
    ((admits_iff r w).mp h).trans ((admits_iff r w').mp h').symm
  apply BitVec.eq_of_getLsbD_eq
  intro k hk
  cases hmask : r.mask.getLsbD k with
  | false => exact hoperands k hk hmask
  | true =>
    have hbit := congrArg (BitVec.getLsbD · k) hmasked
    simpa [hmask] using hbit

theorem getLsbD_eq_of_extractLsb'_eq {w w' : CmdWord} {start len k : Nat}
    (h : w.extractLsb' start len = w'.extractLsb' start len) (hlo : start ≤ k) (hhi : k < start + len) :
    w.getLsbD k = w'.getLsbD k := by
  have hbit := congrArg (BitVec.getLsbD · (k - start)) h
  have hlen : k - start < len := by omega
  simpa [hlen, Nat.add_sub_cancel' hlo] using hbit

/-- Every bit outside a row's mask is a bit of one of its operands' fields (R82, R83). -/
theorem getLsbD_eq_of_operandsFrom_eq {w w' : CmdWord} {i : Instr}
    (h : operandsFrom w i = operandsFrom w' i) {k : Nat} (hk : k < 24)
    (hmask : (rowOf i).mask.getLsbD k = false) : w.getLsbD k = w'.getLsbD k := by
  cases i with
  | nop | step | wdgack =>
    have hall : ∀ k < 24, (0xFFFFFF#24).getLsbD k ≠ false := by decide
    exact absurd hmask (hall k hk)
  | sample ch raw =>
    obtain ⟨hch, hraw⟩ := Instr.sample.inj h
    have hbits : ∀ k < 24, rowSample.mask.getLsbD k = false → k < 16 ∨ 18 ≤ k ∧ k < 20 := by decide
    obtain hlow | ⟨hlo, hhi⟩ := hbits k hk hmask
    · exact getLsbD_eq_of_extractLsb'_eq hraw k.zero_le (by omega)
    · exact getLsbD_eq_of_extractLsb'_eq (channelOfBits_injective hch) hlo hhi
  | rdfilt ch =>
    have hch := Instr.rdfilt.inj h
    have hbits : ∀ k < 24, rowRdfilt.mask.getLsbD k = false → 18 ≤ k ∧ k < 20 := by decide
    obtain ⟨hlo, hhi⟩ := hbits k hk hmask
    exact getLsbD_eq_of_extractLsb'_eq (channelOfBits_injective hch) hlo hhi
  | tick1s wp bp =>
    obtain ⟨hwp, hbp⟩ := Instr.tick1s.inj h
    have hbits : ∀ k < 24, rowTick1s.mask.getLsbD k = false → k = 0 ∨ k = 1 := by decide
    obtain rfl | rfl := hbits k hk hmask
    · exact hwp
    · exact hbp
  | move dir =>
    have hdir := Instr.move.inj h
    have hbits : ∀ k < 24, rowMove.mask.getLsbD k = false → k = 0 := by decide
    obtain rfl := hbits k hk hmask
    exact directionOfBit_injective hdir
  | rdstat idx =>
    have hidx := Instr.rdstat.inj h
    have hbits : ∀ k < 24, rowRdstat.mask.getLsbD k = false → k < 5 := by decide
    have hlow := hbits k hk hmask
    exact getLsbD_eq_of_extractLsb'_eq hidx k.zero_le (by omega)

/-- Settles O2: the word and the encoding are in one row and hold the same operands. -/
theorem encodeOfDecode : Obligations.EncodeOfDecode := by
  intro w i hdecode
  obtain ⟨hrow, hoperands⟩ := decode_eq_ok_iff.mp hdecode
  have hsame : operandsFrom (encode i) i = operandsFrom w i :=
    (operandsFrom_encode i).trans hoperands.symm
  exact eq_of_admits (rowOf_admits_encode i) hrow fun _ => getLsbD_eq_of_operandsFrom_eq hsame

/-! ### The worked words (R99) -/

/-- Settles O5: the words are the encodings written out, and the decoder inverts the encoder. -/
theorem workedEncodings : Obligations.WorkedEncodings := by
  have readBack : ∀ {w : CmdWord} {i : Instr}, encode i = w → decode w = .ok i ∧ encode i = w := by
    rintro _ i rfl
    exact ⟨decodeOfEncode i, rfl⟩
  refine ⟨fun x hx => readBack ?_, by decide, by decide, by decide, by decide⟩
  revert x
  decide

/-! ### Illegal words (R85, R92, R93) -/

/-- Settles O3: a row that admits a word makes it its operation's, and a decoded word is in its row. -/
theorem illegalExactlyWhenNoRowMatches : Obligations.IllegalExactlyWhenNoRowMatches := by
  intro w
  constructor
  · rintro ⟨e, herror⟩ r hr hmatch
    obtain ⟨i, rfl⟩ := exists_rowOf_eq hr
    have hok := decode_of_admits ((admits_iff (rowOf i) w).mpr hmatch)
    cases hok.symm.trans herror
  · intro hnone
    cases hdecode : decode w with
    | error e => exact ⟨e, rfl⟩
    | ok i =>
      obtain ⟨hrow, -⟩ := decode_eq_ok_iff.mp hdecode
      exact absurd ((admits_iff (rowOf i) w).mp hrow) (hnone _ (rowOf_mem_opcodeTable i))

theorem step_of_error {s : State} {e : IllegalWord} (h : decode s.port.cmd = .error e) :
    step s = .next (s.refuse .illegal).advance := by
  simp [step, h]

/-- Settles O7: no row matches, so the decoder rejects the word, and a refusal writes the response alone. -/
theorem illegalWordIsRefused : Obligations.IllegalWordIsRefused := by
  intro s hnone
  obtain ⟨e, herror⟩ := (illegalExactlyWhenNoRowMatches s.port.cmd).mpr hnone
  exact ⟨(s.refuse .illegal).advance, step_of_error herror, by simp, by simp, by simp⟩

end Sys2Proof.Proofs
end

section
/-! PROOFS. The filter (40_filter_bank.md R111 to R115): the step moves the estimate toward the input by
an exact floor, which gives the range law, the truncation laws and the convergence; and `SAMPLE`, which is
one such step. -/

namespace Sys2Proof.Proofs

open Sys2Proof.Machine

/-! ### The filter step on integers (R111) -/

/-- The bound on the accumulator of R114. -/
theorem iirAccumulator_le (y x : U16) {a : Nat} (ha : a ≤ 32768) :
    iirAccumulator y.toNat x.toNat a ≤ 2147450880 := by
  have hy : y.toNat * a ≤ 65535 * a := Nat.mul_le_mul_right a (by omega)
  have hx : x.toNat * (32768 - a) ≤ 65535 * (32768 - a) := Nat.mul_le_mul_right _ (by omega)
  rw [iirAccumulator]
  omega

/-- The truncation to 16 bits discards no set bit (R114). -/
theorem iir_toNat (y x : U16) {a : U16} (ha : a.toNat ≤ 32768) :
    (iir y x a).toNat = (y.toNat * a.toNat + x.toNat * (32768 - a.toNat)) / 32768 := by
  have hacc := iirAccumulator_le y x ha
  have hfits : iirAccumulator y.toNat x.toNat a.toNat / 2 ^ 15 < 2 ^ 16 := by omega
  rw [iir, BitVec.toNat_ofNat, Nat.shiftRight_eq_div_pow, Nat.mod_eq_of_lt hfits]
  rfl

/-- Toward a higher input the estimate rises by the floor of `(x - y) * (32768 - a) / 32768`. -/
theorem iir_toNat_of_le {y x a : U16} (ha : a.toNat ≤ 32768) (h : y.toNat ≤ x.toNat) :
    (iir y x a).toNat = y.toNat + (x.toNat - y.toNat) * (32768 - a.toNat) / 32768 := by
  obtain ⟨d, hd⟩ := Nat.exists_eq_add_of_le h
  obtain ⟨c, hc⟩ := Nat.exists_eq_add_of_le ha
  have hacc : y.toNat * a.toNat + (y.toNat + d) * c = d * c + y.toNat * 32768 := by
    rw [hc]
    ring
  rw [iir_toNat y x ha, hd, Nat.sub_eq_of_eq_add' hc, Nat.add_sub_cancel_left, hacc,
    Nat.add_mul_div_right _ _ (by decide), Nat.add_comm]

/-- Toward a lower input it stays above the input by the floor of `(y - x) * a / 32768`. -/
theorem iir_toNat_of_ge {y x a : U16} (ha : a.toNat ≤ 32768) (h : x.toNat ≤ y.toNat) :
    (iir y x a).toNat = x.toNat + (y.toNat - x.toNat) * a.toNat / 32768 := by
  obtain ⟨d, hd⟩ := Nat.exists_eq_add_of_le h
  obtain ⟨c, hc⟩ := Nat.exists_eq_add_of_le ha
  have hacc : (x.toNat + d) * a.toNat + x.toNat * c = d * a.toNat + x.toNat * 32768 := by
    rw [hc]
    ring
  rw [iir_toNat y x ha, hd, Nat.sub_eq_of_eq_add' hc, Nat.add_sub_cancel_left, hacc,
    Nat.add_mul_div_right _ _ (by decide), Nat.add_comm]

/-! ### The range law (R114) -/

theorem iir_mem_range_of_le {y x a : U16} (ha : a.toNat ≤ 32768) (h : y.toNat ≤ x.toNat) :
    y.toNat ≤ (iir y x a).toNat ∧ (iir y x a).toNat ≤ x.toNat := by
  have hrise : (x.toNat - y.toNat) * (32768 - a.toNat) / 32768 ≤ x.toNat - y.toNat :=
    Nat.div_le_of_le_mul (Nat.mul_comm 32768 _ ▸ Nat.mul_le_mul_left _ (Nat.sub_le ..))
  rw [iir_toNat_of_le ha h]
  omega

theorem iir_mem_range_of_ge {y x a : U16} (ha : a.toNat ≤ 32768) (h : x.toNat ≤ y.toNat) :
    x.toNat ≤ (iir y x a).toNat ∧ (iir y x a).toNat ≤ y.toNat := by
  have hrest : (y.toNat - x.toNat) * a.toNat / 32768 ≤ y.toNat - x.toNat :=
    Nat.div_le_of_le_mul (Nat.mul_comm 32768 _ ▸ Nat.mul_le_mul_left _ ha)
  rw [iir_toNat_of_ge ha h]
  omega

/-- Settles O16: the range law on each side of the input, and the bound on the accumulator. -/
theorem filterStaysInRange : Obligations.FilterStaysInRange := by
  intro y x a ha
  obtain ⟨hmin, hmax⟩ :
      min y.toNat x.toNat ≤ (iir y x a).toNat ∧ (iir y x a).toNat ≤ max y.toNat x.toNat := by
    obtain h | h := Nat.le_total y.toNat x.toNat
    · simpa [h] using iir_mem_range_of_le ha h
    · simpa [h] using iir_mem_range_of_ge ha h
  exact ⟨hmin, hmax, iir_toNat y x ha, iirAccumulator_le y x ha⟩

/-! ### The truncation laws (R115) -/

theorem iir_self (y : U16) {a : U16} (ha : a.toNat ≤ 32768) : iir y y a = y := by
  apply BitVec.eq_of_toNat_eq
  simp [iir_toNat_of_le ha (Nat.le_refl y.toNat)]

theorem iir_toNat_mono {y y' x x' a : U16} (ha : a.toNat ≤ 32768) (hy : y.toNat ≤ y'.toNat)
    (hx : x.toNat ≤ x'.toNat) : (iir y x a).toNat ≤ (iir y' x' a).toNat := by
  rw [iir_toNat y x ha, iir_toNat y' x' ha]
  gcongr

theorem iir_lt_of_gt {y x a : U16} (ha : a.toNat < 32768) (h : x.toNat < y.toNat) :
    (iir y x a).toNat < y.toNat := by
  have hrest : (y.toNat - x.toNat) * a.toNat / 32768 < y.toNat - x.toNat :=
    Nat.div_lt_of_lt_mul (Nat.mul_comm 32768 _ ▸ Nat.mul_lt_mul_of_pos_left ha (Nat.sub_pos_of_lt h))
  rw [iir_toNat_of_ge ha.le h.le]
  omega

/-- From below, the step rests exactly in the dead band. -/
theorem iir_eq_self_iff_of_le {y x a : U16} (ha : a.toNat ≤ 32768) (h : y.toNat ≤ x.toNat) :
    iir y x a = y ↔ (x.toNat - y.toNat) * (32768 - a.toNat) < 32768 := by
  rw [← BitVec.toNat_inj, iir_toNat_of_le ha h, Nat.add_eq_left, Nat.div_eq_zero_iff_lt (by decide)]

/-- Without filtering (`a = 0`) the step answers the input. -/
theorem iir_zero (y x : U16) : iir y x 0#16 = x := by
  apply BitVec.eq_of_toNat_eq
  simp [iir_toNat y x (a := 0#16) (by decide)]

/-- Frozen (`a = 32768`) it answers the estimate. -/
theorem iir_frozen (y x : U16) : iir y x 32768#16 = y := by
  apply BitVec.eq_of_toNat_eq
  simp [iir_toNat y x (a := 32768#16) (by decide)]

/-- Settles O17, law by law. -/
theorem filterTruncationLaws : Obligations.FilterTruncationLaws :=
  ⟨fun y _ ha => iir_self y ha, fun _ _ _ _ _ => iir_toNat_mono,
    fun _ _ _ ha h => Nat.le_sub_one_of_lt (iir_lt_of_gt ha h),
    fun _ _ _ ha h => iir_eq_self_iff_of_le ha.le h.le, fun y x => ⟨iir_zero y x, iir_frozen y x⟩⟩

/-! ### A constant input (R115 c, e) -/

section ConstantInput

variable {x a : U16}

/-- The estimate never crosses a constant input from below. -/
theorem iterate_iir_le (ha : a.toNat ≤ 32768) {y : U16} (h : y.toNat ≤ x.toNat) (n : Nat) :
    ((fun z => iir z x a)^[n] y).toNat ≤ x.toNat :=
  Function.Iterate.rec (fun z : U16 => z.toNat ≤ x.toNat)
    h (fun _ hz => (iir_mem_range_of_le ha hz).2) n

/-- Nor from above. -/
theorem le_iterate_iir (ha : a.toNat ≤ 32768) {y : U16} (h : x.toNat ≤ y.toNat) (n : Nat) :
    x.toNat ≤ ((fun z => iir z x a)^[n] y).toNat :=
  Function.Iterate.rec (fun z : U16 => x.toNat ≤ z.toNat)
    h (fun _ hz => (iir_mem_range_of_ge ha hz).1) n

theorem distance_iir_le (ha : a.toNat ≤ 32768) (y : U16) : distance (iir y x a) x ≤ distance y x := by
  obtain h | h := Nat.le_total y.toNat x.toNat
  · have hrange := iir_mem_range_of_le ha h
    unfold distance
    omega
  · have hrange := iir_mem_range_of_ge ha h
    unfold distance
    omega

/-- A step that comes no closer to its input does not move, because it stays on its side. -/
theorem iir_eq_self_of_distance_eq (ha : a.toNat ≤ 32768) {y : U16}
    (hdist : distance (iir y x a) x = distance y x) : iir y x a = y := by
  apply BitVec.eq_of_toNat_eq
  unfold distance at hdist
  obtain h | h := Nat.le_total y.toNat x.toNat
  · have hrange := iir_mem_range_of_le ha h
    omega
  · have hrange := iir_mem_range_of_ge ha h
    omega

/-- The distance to a constant input cannot fall for ever, so the estimate comes to rest. -/
theorem exists_iterate_iir_at_rest (ha : a.toNat ≤ 32768) (y : U16) :
    ∃ (n : Nat) (rest : U16), iir rest x a = rest ∧ ∀ m ≥ n, (fun z => iir z x a)^[m] y = rest := by
  have hfalls : Antitone fun n => distance ((fun z => iir z x a)^[n] y) x :=
    antitone_nat_of_succ_le fun n => by
      rw [Function.iterate_succ_apply']
      exact distance_iir_le ha _
  obtain ⟨n, hn⟩ := WellFoundedLT.antitone_chain_condition hfalls
  have hsame := hn (n + 1) n.le_succ
  rw [Function.iterate_succ_apply'] at hsame
  have hrest := iir_eq_self_of_distance_eq ha hsame.symm
  refine ⟨n, _, hrest, fun m hm => ?_⟩
  obtain ⟨k, rfl⟩ := Nat.exists_eq_add_of_le' hm
  rw [Function.iterate_add_apply, Function.iterate_fixed hrest]

/-- From above the only place to rest is the input. -/
theorem eq_of_iir_eq_self_of_ge (ha : a.toNat < 32768) {y : U16} (h : x.toNat ≤ y.toNat)
    (hrest : iir y x a = y) : y = x := by
  obtain heq | hlt := h.eq_or_lt
  · exact (BitVec.eq_of_toNat_eq heq).symm
  · exact absurd (congrArg BitVec.toNat hrest) (iir_lt_of_gt ha hlt).ne

/-- From below the places to rest are within `ceil(32768 / (32768 - a)) - 1` of it. -/
theorem sub_le_of_iir_eq_self_of_le (ha : a.toNat < 32768) {y : U16} (h : y.toNat ≤ x.toNat)
    (hrest : iir y x a = y) :
    x.toNat - y.toNat ≤ (32768 + (32768 - a.toNat) - 1) / (32768 - a.toNat) - 1 := by
  have hpos : 0 < 32768 - a.toNat := Nat.sub_pos_of_lt ha
  have hband := (iir_eq_self_iff_of_le ha.le h).mp hrest
  have hceil : (32768 + (32768 - a.toNat) - 1) / (32768 - a.toNat) - 1
      = 32767 / (32768 - a.toNat) := by
    rw [Nat.sub_add_comm (by decide), Nat.add_div_right _ hpos, Nat.succ_sub_one]
  rw [hceil, Nat.le_div_iff_mul_le hpos]
  exact Nat.le_of_lt_succ hband

end ConstantInput

/-- Settles O18: the estimate comes to rest on its side of the input, from above at the input and from
below in the dead band. -/
theorem filterConvergence : Obligations.FilterConvergence := by
  intro y x a ha
  obtain ⟨n, rest, hfixed, hrest⟩ := exists_iterate_iir_at_rest (x := x) ha.le y
  refine ⟨fun h => ⟨n, ?_⟩, iterate_iir_le ha.le, fun h => ⟨n, rest, hrest, ?_⟩,
    sub_le_of_iir_eq_self_of_le ha⟩
  · have habove : x.toNat ≤ rest.toNat := hrest n le_rfl ▸ le_iterate_iir ha.le h n
    exact eq_of_iir_eq_self_of_ge ha habove hfixed ▸ hrest
  · have hbelow : rest.toNat ≤ x.toNat := hrest n le_rfl ▸ iterate_iir_le ha.le h n
    exact sub_le_of_iir_eq_self_of_le ha hbelow hfixed

/-! ### `SAMPLE` (R113) -/

/-- The coefficients' ranges (R5). -/
theorem legal_coefficients (p : LegalParams) :
    p.val.aSlowQ15.toNat ≤ 32768 ∧ p.val.aFastQ15.toNat ≤ 32768 := by
  have h := p.property
  simp only [Params.legal, Bool.and_eq_true, decide_eq_true_eq] at h
  omega

theorem absdiff_toNat_eq_distance (x y : U16) : (absdiff x y).toNat = distance x y := absdiff_toNat x y

@[simp] theorem readFilt_writeFilt_self (b : Block) (ch : Channel) (v : U16) :
    readFilt (writeFilt b ch v) ch = v :=
  Vector.getElem_set_self (channelIndex ch).isLt

/-- The number of a channel in the word is the index of its register (R61, R86). -/
theorem ofNat_channelIndex (ch : Channel) : BitVec.ofNat 2 (channelIndex ch).val = channelBits ch := by
  cases ch <;> rfl

theorem decode_sampleWord (ch : Channel) (raw : U16) :
    decode (0x1#4 ++ BitVec.ofNat 2 (channelIndex ch).val ++ 0#2 ++ raw) = .ok (.sample ch raw) := by
  rw [ofNat_channelIndex]
  exact decodeOfEncode (.sample ch raw)

theorem exec_sample_of_water {ch : Channel} {i : Fin 2} (h : waterIndex ch = some i) (raw : U16)
    (s : State) :
    ∃ v : U16,
      v.toNat = (s.blk.filt[channelIndex ch].toNat * s.cfg.val.aSlowQ15.toNat
        + distance raw s.blk.prev[i] * (32768 - s.cfg.val.aSlowQ15.toNat)) / 32768
      ∧ exec (.sample ch raw) s = .next (s.answered
          { s.blk with filt := s.blk.filt.set (channelIndex ch) v, prev := s.blk.prev.set i raw } .ok v) := by
  obtain ⟨hslow, -⟩ := legal_coefficients s.cfg
  refine ⟨iir (readFilt s.blk ch) (absdiff raw (readPrev s.blk i)) s.cfg.val.aSlowQ15, ?_, ?_⟩
  · rw [iir_toNat _ _ hslow, absdiff_toNat_eq_distance]
    rfl
  · rw [exec_sample, sampleBlock_of_water h, readFilt_writeFilt_self]
    rfl

theorem exec_sample_of_pot {ch : Channel} (h : waterIndex ch = none) (raw : U16) (s : State) :
    ∃ v : U16,
      v.toNat = (s.blk.filt[channelIndex ch].toNat * s.cfg.val.aFastQ15.toNat
        + raw.toNat * (32768 - s.cfg.val.aFastQ15.toNat)) / 32768
      ∧ exec (.sample ch raw) s = .next (s.answered
          { s.blk with filt := s.blk.filt.set (channelIndex ch) v } .ok v) := by
  obtain ⟨-, hfast⟩ := legal_coefficients s.cfg
  refine ⟨iir (readFilt s.blk ch) raw s.cfg.val.aFastQ15, iir_toNat _ _ hfast, ?_⟩
  rw [exec_sample, sampleBlock_of_pot h, readFilt_writeFilt_self]
  rfl

/-- Settles O15: the word is the encoding, and the channels are two water channels and two pots. -/
theorem sampleFiltersOneChannel : Obligations.SampleFiltersOneChannel := by
  intro s raw
  refine ⟨fun ch => decode_sampleWord ch raw, fun x hx => ?_, fun ch hch => ?_⟩
  · have hwater : waterIndex x.1 = some x.2 := by
      revert x
      decide
    exact exec_sample_of_water hwater raw s
  · have hpot : waterIndex ch = none := by
      revert ch
      decide
    exact exec_sample_of_pot hpot raw s

end Sys2Proof.Proofs
end

section
/-! PROOFS. The Wind Gust Detector (41_gust_detector.md): the slot a stored event takes, the bank against
the sliding window of R136, and the bank an accepted `TICK1S` leaves. -/

namespace Sys2Proof.Proofs

open Sys2Proof.Machine

/-! ### The search for a free slot (R131, R134) -/

/-- The ring from any pointer reaches every slot of the bank. -/
theorem exists_ringSlot_eq {k : Nat} (hk : k ≤ 16) (gnext : Fin 16) {i : Fin 16} (hi : i.val < k) :
    ∃ j < k, ringSlot k gnext j = i := by
  have hptr := Nat.mod_lt gnext.val (show 0 < k by omega)
  refine ⟨(i.val + (k - gnext.val % k)) % k, Nat.mod_lt _ (by omega), Fin.ext ?_⟩
  rw [ringSlot_val _ _ _ (by omega) hk, Nat.add_mod_mod, ← Nat.mod_add_mod,
    show gnext.val % k + (i.val + (k - gnext.val % k)) = i.val + k by omega, Nat.add_mod_right,
    Nat.mod_eq_of_lt hi]

/-- The slots the bank has (R24). -/
theorem countP_slots {k : Nat} (hk : k ≤ 16) :
    (List.finRange 16).countP (fun i => decide (i.val < k)) = k := by
  have hall : ∀ k : Fin 17, (List.finRange 16).countP (fun i => decide (i.val < k.val)) = k.val := by
    decide
  exact hall ⟨k, by omega⟩

/-- Fewer than `K` active timers leave the search a slot (R131). -/
theorem freeSlot_isSome_of_activeTimers_lt {k : Nat} (hk : k ≤ 16) {g : Bank} (gnext : Fin 16)
    (h : activeTimers k g < k) : ∃ i, freeSlot k g gnext = some i := by
  refine Option.ne_none_iff_exists'.mp fun hnone => h.ne ?_
  have hbusy : ∀ i : Fin 16, i.val < k → g[i] ≠ 0#16 := by
    intro i hi
    obtain ⟨j, hj, rfl⟩ := exists_ringSlot_eq hk gnext hi
    exact freeSlot_none k g gnext hnone j hj
  calc activeTimers k g
      = (List.finRange 16).countP (fun i => decide (i.val < k)) :=
        List.countP_congr fun i _ => by simpa using hbusy i
    _ = k := countP_slots hk

/-- What storing does when a timer is free: the event goes into the first free slot of the ring, with the
window, and the pointer moves past it (R131, R134). -/
theorem allocateEvent_of_activeTimers_lt (p : LegalParams) {b : Block}
    (h : activeTimers p.val.k b.gt < p.val.k) :
    ∃ j < p.val.k, b.gt[ringSlot p.val.k b.gnext j] = 0#16
      ∧ (∀ j' < j, b.gt[ringSlot p.val.k b.gnext j'] ≠ 0#16)
      ∧ allocateEvent p.val b = storeEvent p.val (ringSlot p.val.k b.gnext j) b := by
  obtain ⟨i, hsome⟩ := freeSlot_isSome_of_activeTimers_lt (k_le p) b.gnext h
  obtain ⟨hfree, j, hj, rfl, hfirst⟩ := freeSlot_some _ _ _ _ hsome
  refine ⟨j, hj, hfree, hfirst, ?_⟩
  rw [allocateEvent, hsome]

/-- `GUST` obeys its law, from any bank and any pointer (R131). -/
theorem gust_gustLaw (p : LegalParams) (windPre : Bool) (b : Block) :
    GustLaw p.val windPre b.gt b.gnext (gust p.val windPre b).1.gt (gust p.val windPre b).1.gnext := by
  have hk := k_le p
  refine ⟨ageTimers p.val.k b.gt, ageTimers_getElem_toNat p.val.k b.gt, ?_⟩
  rw [← List.countP_eq_length_filter, ← activeTimers]
  rcases gust_cases p.val windPre b with ⟨⟨-, hfull⟩, h⟩ | ⟨⟨hpre, hroom⟩, h⟩ | ⟨hpre, h⟩ <;> rw [h]
  · rw [if_neg (by omega)]
    exact ⟨rfl, rfl⟩
  · obtain ⟨j, hj, hfree, hfirst, hstore⟩ := allocateEvent_of_activeTimers_lt p
      (b := { b with gt := ageTimers p.val.k b.gt }) (not_le.mp hroom)
    have hring := fun j => ringSlot_val p.val.k b.gnext j (by omega) hk
    have hslot := Nat.mod_lt ((ringSlot p.val.k b.gnext j).val + 1) (show 0 < p.val.k by omega)
    rw [if_pos ⟨hpre, by omega⟩, hstore]
    refine ⟨j, (ringSlot p.val.k b.gnext j).val, Fin.isLt _, hj, hring j, hfree, fun j' hj' => ?_, rfl, ?_⟩
    · rw [← hring j', Vector.getElem?_eq_getElem (Fin.isLt _)]
      exact fun hsome => hfirst j' hj' (Option.some.inj hsome)
    · simp only [storeEvent_gnext, Fin.val_ofNat]
      exact Nat.mod_eq_of_lt (by omega)
  · rw [if_neg (by simp [hpre])]
    exact ⟨rfl, rfl⟩

/-! ### The bank after an accepted `TICK1S` (R170) -/

/-- The bank and the pointer `GUST` starts from: as they stand, or as the override cleared them (R171,
R173). -/
theorem water_manualOverride_bank (p : Params) (bp : Bool) (b : Block) :
    (water p bp (manualOverride bp (refreshWatchdog p b))).1.gt
        = (if bp then Vector.replicate 16 0#16 else b.gt)
      ∧ (water p bp (manualOverride bp (refreshWatchdog p b))).1.gnext
        = if bp then 0 else b.gnext := by
  rw [water_frame]
  cases bp <;> exact ⟨rfl, rfl⟩

/-- Part 3 of the evaluation (R170, R199). -/
theorem evaluate_gustLaw (p : LegalParams) (wp bp : Bool) (b : Block) :
    GustLaw p.val wp (if bp then Vector.replicate 16 0#16 else b.gt) (if bp then 0 else b.gnext)
      (evaluate p.val wp bp b).blk.gt (evaluate p.val wp bp b).blk.gnext := by
  obtain ⟨hgt, hgnext⟩ := water_manualOverride_bank p.val bp b
  rw [← hgt, ← hgnext, evaluate]
  generalize water p.val bp (manualOverride bp (refreshWatchdog p.val b)) = w
  exact gust_gustLaw p wp { w.1 with waterAlarmCount := countPreAlarm p.val w.2 w.1.waterAlarmCount }

/-- Part 5 keeps the alarm memory, unless it invokes an actuation with the button pressed: the refusal
clears it (R171, R187). -/
theorem applyTransition_alarmMemoryOf (p : Params) (btn : Bool) (t : Transition) (b : Block) :
    alarmMemoryOf (applyTransition p btn t b)
      = if transitionAct t ≠ .none ∧ btn = true then clearMemory else alarmMemoryOf b := by
  cases t with
  | raise => cases btn <;> rfl
  | lower => cases btn <;> rfl
  | defer => rfl
  | count => rfl
  | nothing => rfl

/-- Settles O32: the evaluation obeys the law of `GUST`, and its transition keeps or clears the bank. -/
theorem tickMovesTheGustBank : Obligations.TickMovesTheGustBank := by
  intro s wp bp hseq
  refine ⟨_, exec_tick1s_of_idle wp bp s hseq, ?_⟩
  have hmemory := applyTransition_alarmMemoryOf s.cfg.val s.port.btn
    (evaluationTransition (evaluate s.cfg.val wp bp s.blk)) (evaluate s.cfg.val wp bp s.blk).blk
  simp only [transitionAct_ne_none_iff] at hmemory
  rw [State.answered_blk, tickBlock]
  split <;> rename_i hrefused
  · rw [if_pos hrefused] at hmemory
    simp only [alarmMemoryOf, clearMemory, Prod.mk.injEq] at hmemory
    obtain ⟨-, hcleared⟩ := hmemory
    exact hcleared
  · rw [if_neg hrefused] at hmemory
    simp only [alarmMemoryOf, Prod.mk.injEq] at hmemory
    obtain ⟨-, hgt, hgnext⟩ := hmemory
    rw [hgt, hgnext]
    exact evaluate_gustLaw s.cfg wp bp s.blk

/-! ### The bank and the sliding window (R136) -/

/-- The timers of the bank that read more than `v`. -/
def timersAbove (k : Nat) (g : Bank) (v : Nat) : Nat :=
  (Finset.univ.filter fun i : Fin 16 => i.val < k ∧ v < g[i].toNat).card

theorem activeTimers_eq_timersAbove (k : Nat) (g : Bank) : activeTimers k g = timersAbove k g 0 := by
  have hcard : timersAbove k g 0
      = (List.finRange 16).countP fun i => decide (i.val < k ∧ 0 < g[i].toNat) :=
    (List.countP_eq_length_filter ..).symm
  rw [hcard, activeTimers]
  refine List.countP_congr fun i _ => ?_
  simp [← BitVec.toNat_inj, Nat.pos_iff_ne_zero]

theorem timersAbove_cleared (k v : Nat) : timersAbove k (Vector.replicate 16 0#16) v = 0 := by
  simp [timersAbove]

/-- The ageing takes one from every timer (R131). -/
theorem timersAbove_ageTimers (k : Nat) (g : Bank) (v : Nat) :
    timersAbove k (ageTimers k g) v = timersAbove k g (v + 1) := by
  refine congrArg Finset.card (Finset.filter_congr fun i _ => and_congr_right fun hi => ?_)
  rw [ageTimers_getElem_toNat, if_pos hi]
  omega

/-- Loading a free timer adds it to those that read more than anything below the load. -/
theorem timersAbove_set {k : Nat} {g : Bank} {i : Fin 16} (hi : i.val < k) (hfree : g[i] = 0#16)
    (w : U16) (v : Nat) :
    timersAbove k (g.set i w) v = timersAbove k g v + if v < w.toNat then 1 else 0 := by
  have hread : ∀ i' : Fin 16, (g.set i w)[i'] = if i' = i then w else g[i'] := by
    intro i'
    simp [Vector.getElem_set, Fin.ext_iff, eq_comm]
  split <;> rename_i hv
  · have hread_i : g[i.val] = 0#16 := hfree
    have hinsert : (Finset.univ.filter fun i' : Fin 16 => i'.val < k ∧ v < (g.set i w)[i'].toNat)
        = insert i (Finset.univ.filter fun i' : Fin 16 => i'.val < k ∧ v < g[i'].toNat) := by
      ext i'
      rw [Finset.mem_insert, Finset.mem_filter_univ, Finset.mem_filter_univ, hread]
      by_cases hsame : i' = i <;> simp [hsame, hi, hv]
    rw [timersAbove, hinsert, Finset.card_insert_of_notMem (by simp [hread_i]), timersAbove]
  · refine congrArg Finset.card (Finset.filter_congr fun i' _ => ?_)
    rw [hread]
    by_cases hsame : i' = i <;> simp [hsame, hfree, hv]

/-- The bank holds a timer of `w − a` for every stored event of age `a < w`, and no other active one.
Comparing the counts above each value says so without naming the slots the events stand in. -/
def TracksWindow (k w : Nat) (g : Bank) (ages : List Nat) : Prop :=
  ∀ v, timersAbove k g v = ages.countP fun a => decide (a + v < w)

theorem tracksWindow_cleared (k w : Nat) : TracksWindow k w (Vector.replicate 16 0#16) [] :=
  fun v => timersAbove_cleared k v

/-- One evaluation makes every event a second older (R131, R136). -/
theorem TracksWindow.age {k w : Nat} {g : Bank} {ages : List Nat} (h : TracksWindow k w g ages) :
    TracksWindow k w (ageTimers k g) (ages.map (· + 1)) := by
  intro v
  rw [timersAbove_ageTimers, h, List.countP_map]
  refine List.countP_congr fun a _ => ?_
  simp [Nat.add_right_comm, Nat.add_assoc]

/-- The active timers are the events in the window (R132). -/
theorem TracksWindow.activeTimers_eq {k w : Nat} {g : Bank} {ages : List Nat}
    (h : TracksWindow k w g ages) : activeTimers k g = ages.countP fun a => decide (a < w) := by
  rw [activeTimers_eq_timersAbove, h]
  rfl

/-- A stored event has age 0. -/
theorem TracksWindow.store (p : LegalParams) {b : Block} {ages : List Nat}
    (h : TracksWindow p.val.k p.val.gustWindow.toNat b.gt ages)
    (hroom : activeTimers p.val.k b.gt < p.val.k) :
    TracksWindow p.val.k p.val.gustWindow.toNat (allocateEvent p.val b).gt (0 :: ages) := by
  obtain ⟨j, -, hfree, -, hstore⟩ := allocateEvent_of_activeTimers_lt p hroom
  have hslot : (ringSlot p.val.k b.gnext j).val < p.val.k := by
    rw [ringSlot_val _ _ _ (by omega) (k_le p)]
    exact Nat.mod_lt _ (by omega)
  intro v
  rw [hstore, storeEvent_gt, timersAbove_set hslot hfree, h, List.countP_cons]
  simp

/-- One evaluation of the bank is one of the sliding window (R131, R136). -/
theorem gust_tracksWindow (p : LegalParams) (x : Bool) {b : Block} {ages : List Nat}
    (h : TracksWindow p.val.k p.val.gustWindow.toNat b.gt ages) :
    (gust p.val x b).2 = (x && decide (p.val.k
        ≤ (ages.map (· + 1)).countP fun a => decide (a < p.val.gustWindow.toNat)))
      ∧ TracksWindow p.val.k p.val.gustWindow.toNat (gust p.val x b).1.gt
        (if x && !(gust p.val x b).2 then 0 :: ages.map (· + 1) else ages.map (· + 1)) := by
  have haged := h.age
  refine ⟨by rw [gust_alarm, haged.activeTimers_eq], ?_⟩
  rcases gust_cases p.val x b with ⟨-, hb⟩ | ⟨⟨hpre, hroom⟩, hb⟩ | ⟨hpre, hb⟩ <;> rw [hb]
  · simpa using haged
  · simpa [hpre] using TracksWindow.store p
      (b := { b with gt := ageTimers p.val.k b.gt }) haged (not_le.mp hroom)
  · simpa [hpre] using haged

/-- The refinement, from any bank that tracks the window. -/
theorem gustAlarms_eq_slidingWindow (p : LegalParams) (pre : List Bool) {b : Block} {ages : List Nat}
    (h : TracksWindow p.val.k p.val.gustWindow.toNat b.gt ages) :
    gustAlarms p.val b pre = slidingWindow p.val.k p.val.gustWindow.toNat ages pre := by
  induction pre generalizing b ages with
  | nil => rfl
  | cons x rest ih =>
    obtain ⟨halarm, hnext⟩ := gust_tracksWindow p x h
    rw [gustAlarms, slidingWindow, ih hnext, halarm]

/-- Settles O39: the cleared bank tracks the empty window. -/
theorem timerBankIsASlidingWindow : Obligations.TimerBankIsASlidingWindow := by
  intro p b pre hempty
  exact gustAlarms_eq_slidingWindow p pre (hempty ▸ tracksWindow_cleared _ _)

/-! ### Consecutive pre-alarms (R137) -/

/-- Events of the last `m` evaluations are all in a window longer than `m`. -/
theorem countP_consecutive_lt {m w : Nat} (h : m < w) :
    ((List.range m).map (· + 1)).countP (fun a => decide (a < w)) = m := by
  rw [List.countP_eq_length.mpr, List.length_map, List.length_range]
  intro a ha
  obtain ⟨a', ha', rfl⟩ := List.mem_map.mp ha
  have hlt := List.mem_range.mp ha'
  exact decide_eq_true (by omega)

/-- After `m` pre-alarms in a row that were all stored, `n` more fill the `k` timers of the bank and the
next one alarms, where the window holds them all. -/
theorem slidingWindow_consecutive {k w : Nat} (hw : k < w) {m n : Nat} (hk : m + n = k) :
    slidingWindow k w (List.range m) (List.replicate (n + 1) true) = List.replicate n false ++ [true] := by
  induction n generalizing m with
  | zero => simp [slidingWindow, countP_consecutive_lt (show m < w by omega), ← hk]
  | succ n ih =>
    have hquiet : decide (k ≤ m) = false := decide_eq_false (by omega)
    rw [List.replicate_succ, slidingWindow, countP_consecutive_lt (show m < w by omega)]
    simp only [hquiet, Bool.and_false, Bool.not_false, Bool.and_true, if_true]
    rw [← List.range_succ_eq_map, ih (by omega)]
    rfl

/-- At most `k` events, the stored ones and those to come, never alarm. -/
theorem slidingWindow_of_few {k w : Nat} {ages : List Nat} {pre : List Bool}
    (h : ages.length + pre.count true ≤ k) :
    slidingWindow k w ages pre = List.replicate pre.length false := by
  induction pre generalizing ages with
  | nil => rfl
  | cons x rest ih =>
    cases x with
    | false =>
      have hrest : ages.length + rest.count true ≤ k := by simpa using h
      simp [slidingWindow, List.replicate_succ, ih (ages := ages.map (· + 1)) (by simpa using hrest)]
    | true =>
      have hrest : ages.length + (rest.count true + 1) ≤ k := by simpa using h
      have hwindow : (ages.map (· + 1)).countP (fun a => decide (a < w)) ≤ ages.length := by
        simpa using List.countP_le_length (p := fun a => decide (a < w)) (l := ages.map (· + 1))
      have hquiet : decide (k ≤ (ages.map (· + 1)).countP fun a => decide (a < w)) = false :=
        decide_eq_false (by omega)
      have hnext := ih (ages := 0 :: ages.map (· + 1)) (by simp; omega)
      rw [slidingWindow, hquiet, List.length_cons, List.replicate_succ]
      exact congrArg (List.cons false) hnext

/-- `N = K + 1` (R5, R7). -/
theorem gustN_eq_k_add_one (p : LegalParams) : p.val.gustN = p.val.k + 1 := by
  have h := p.property
  simp only [Params.legal, Bool.and_eq_true, decide_eq_true_eq] at h
  rw [Params.k]
  omega

/-- Settles O40: on the sliding window, by `TimerBankIsASlidingWindow`. -/
theorem nthConsecutiveGustAlarms : Obligations.NthConsecutiveGustAlarms := by
  intro p b hempty
  have hN := gustN_eq_k_add_one p
  refine ⟨fun hwindow => ?_, fun pre hfew => ?_⟩ <;> rw [timerBankIsASlidingWindow p b _ hempty]
  · rw [hN]
    exact slidingWindow_consecutive (m := 0) (by omega) (by omega)
  · exact slidingWindow_of_few (by simp; omega)

end Sys2Proof.Proofs
end

section
/-! PROOFS. The water threshold adapter (42_water_adapter.md): the ratio (R146, R157), the threshold that an
evaluation leaves (R147 to R155, R158), and its relaxation towards the setpoint (R159). -/

namespace Sys2Proof.Proofs

open Sys2Proof.Machine

/-! ### The ratio -/

/-- The test of the reference comes first (R146). -/
theorem waterRatio_zero_ref (meas : U16) : waterRatio 0#16 meas = 65535 := if_pos rfl

theorem waterRatio_of_ne_zero {ref : U16} (h : ref ≠ 0#16) (meas : U16) :
    waterRatio ref meas = meas.toNat * 65536 / ref.toNat := if_neg h

/-- Equal non-zero readings cancel (R157). -/
theorem waterRatio_self {r : U16} (h : r ≠ 0#16) : waterRatio r r = 65536 := by
  have hpos : 0 < r.toNat := Nat.pos_of_ne_zero fun hzero => h (BitVec.eq_of_toNat_eq hzero)
  rw [waterRatio_of_ne_zero h, Nat.mul_div_cancel_left _ hpos]

/-- The quotient is at most the dividend, which is at most 65535 times 65536 (R157). -/
theorem waterRatio_le (ref meas : U16) : waterRatio ref meas ≤ 4294901760 := by
  by_cases h : ref = 0#16
  · rw [h, waterRatio_zero_ref]
    decide
  · have hmeas := meas.isLt
    calc waterRatio ref meas
        = meas.toNat * 65536 / ref.toNat := waterRatio_of_ne_zero h meas
      _ ≤ meas.toNat * 65536 := Nat.div_le_self ..
      _ ≤ 4294901760 := by omega

/-- Settles O38, law by law; the maximum is reached at the least reference and the largest measure. -/
theorem waterRatioLaws : Obligations.WaterRatioLaws :=
  ⟨waterRatio_zero_ref, fun _ meas h => waterRatio_of_ne_zero h meas, fun _ h => waterRatio_self h,
    waterRatio_le, rfl⟩

/-! ### The parts of `WATER` on exact integers -/

/-- Clause (a), the snap on a rotation of the pot (R149). -/
theorem snapOnRotation_toNat (p : Params) (b : Block) :
    (snapOnRotation p b.filt[3] b.spD2 b.threshold).toNat = snappedThreshold p b := by
  rw [snapOnRotation, absdiff_toNat_eq_distance, snappedThreshold]
  split <;> rfl

/-- Down, just commanded (R151): the cap at the setpoint brings the value into 16 bits. -/
theorem biasedThreshold_toNat (p : Params) (wd : Nat) (sp : U16) :
    (biasedThreshold p wd sp).toNat = min (wd - p.thrBias) sp.toNat := by
  have hsp := sp.isLt
  rw [biasedThreshold, satsub, BitVec.toNat_ofNat, Nat.mod_eq_of_lt (by omega)]

/-- Down, not just commanded (R152): a step stops at the setpoint, so it stays in 16 bits. -/
theorem relaxedThreshold_toNat (p : Params) (wd : Nat) (sp thr : U16) :
    (relaxedThreshold p wd sp thr).toNat
      = if thr.toNat < sp.toNat then
          if sp.toNat + p.thrMargin ≤ wd then min (thr.toNat + p.thrStep) sp.toNat else thr.toNat
        else sp.toNat := by
  have hsp := sp.isLt
  unfold relaxedThreshold
  split
  · split
    · rw [BitVec.toNat_ofNat, Nat.mod_eq_of_lt (by omega)]
    · rfl
  · rfl

/-- The threshold after `WATER` (R150): one of the four cases of clause (b), on what clause (a) left. -/
theorem water_threshold (p : Params) (justManual : Bool) (b : Block) :
    (water p justManual b).1.threshold
      = if b.isDown then
          if justManual then biasedThreshold p (ratioNow b) b.filt[3]
          else relaxedThreshold p (ratioNow b) b.filt[3]
            (snapOnRotation p b.filt[3] b.spD2 b.threshold)
        else if b.isAuto then midpoint b.filt[3] (loweredMinimum b.minimumSeen (ratioNow b))
        else b.filt[3] := by
  rw [← waterRatio_eq_ratioNow]
  unfold water waterPolicy
  cases b.isDown <;> cases b.isAuto <;> cases justManual <;> rfl

/-! ### The threshold after an accepted `TICK1S` -/

/-- The count and `GUST` leave the threshold as `WATER` made it (R199). -/
theorem evaluate_threshold (p : Params) (wp bp : Bool) (b : Block) :
    (evaluate p wp bp b).blk.threshold
      = (water p bp (manualOverride bp (refreshWatchdog p b))).1.threshold := by
  rw [evaluate, gust_frame]

/-- The threshold that parts 1 to 4 leave, by the record and the mode after the override (R150 to R155). -/
theorem evaluate_threshold_toNat (p : Params) (wp bp : Bool) (b : Block) :
    (evaluate p wp bp b).blk.threshold.toNat = thresholdNext p bp b := by
  have hratio : ratioNow (refreshWatchdog p b) = ratioNow b := rfl
  rw [evaluate_threshold, water_threshold]
  cases bp with
  | true => exact biasedThreshold_toNat p (ratioNow b) b.filt[3]
  | false =>
    cases hdown : b.isDown with
    | true =>
      simp [manualOverride, thresholdNext, downNow, hdown, relaxedThreshold_toNat, hratio,
        ← snapOnRotation_toNat]
    | false =>
      cases hauto : b.isAuto <;>
        simp [manualOverride, thresholdNext, minimumNext, downNow, autoNow, hdown, hauto, hratio,
          midpoint_toNat, loweredMinimum_toNat]

/-- The threshold at a fall-back to Manual (R162, R187). -/
theorem fallbackThreshold_eq_ite (p : Params) (b : Block) :
    fallbackThreshold p b
      = if p.fallbackThrPolicy = .snapToSetpoint then b.setpoint else b.threshold := by
  unfold fallbackThreshold
  cases p.fallbackThrPolicy <;> rfl

theorem applyCont_interrupted (p : Params) {cont : Sys2Proof.Machine.Cont} (hcont : cont ≠ .none)
    (b : Block) : applyCont p cont .interrupted b = fallBackToManual p b := by
  cases cont with
  | none => exact absurd rfl hcont
  | raise => rfl
  | lower => rfl

/-- A start with a continuation keeps the threshold, unless it is refused under `SNAP_TO_SETPOINT` (R180,
R187). -/
theorem startMove_threshold (p : Params) (btn : Bool) (dir : Direction)
    {cont : Sys2Proof.Machine.Cont} (hcont : cont ≠ .none) (b : Block) :
    (startMove p btn dir cont b).threshold
      = if btn = true ∧ p.fallbackThrPolicy = .snapToSetpoint then b.setpoint else b.threshold := by
  rcases startMove_cases p btn dir cont b with ⟨hbtn, h⟩ | ⟨hbtn, h⟩ <;> rw [h]
  · rw [applyCont_interrupted p hcont, fallBackToManual_threshold, fallbackThreshold_eq_ite]
    simp [hbtn]
  · simp [hbtn]

/-- Part 5 keeps the threshold, unless it invokes an actuation with the button pressed under
`SNAP_TO_SETPOINT`. -/
theorem applyTransition_threshold (p : Params) (btn : Bool) (t : Transition) (b : Block) :
    (applyTransition p btn t b).threshold
      = if transitionAct t ≠ .none ∧ btn = true ∧ p.fallbackThrPolicy = .snapToSetpoint then b.setpoint
        else b.threshold := by
  cases t with
  | raise => simpa [applyTransition, transitionAct] using startMove_threshold p btn .up (by simp) b
  | lower =>
    simpa [applyTransition, transitionAct] using startMove_threshold p btn .down (by simp)
      { b with autoDownTimer := tickTimer b.autoDownTimer }
  | defer => rfl
  | count => rfl
  | nothing => rfl

/-- The threshold after an accepted `TICK1S` (R147, R187). -/
theorem tickBlock_threshold_toNat (p : Params) (btn wp bp : Bool) (b : Block) :
    (tickBlock p btn wp bp b).threshold.toNat
      = if actNext p wp bp b ≠ 0 ∧ btn = true ∧ p.fallbackThrPolicy = .snapToSetpoint then
          b.filt[3].toNat
        else thresholdNext p bp b := by
  have hsetpoint : (evaluate p wp bp b).blk.setpoint = b.filt[3] := by rw [evaluate_frame]
  rw [tickBlock, applyTransition_threshold, apply_ite BitVec.toNat, hsetpoint,
    evaluate_threshold_toNat]
  simp only [transitionAct_ne_none_iff]

/-- Settles O30. -/
theorem tickAdaptsTheThreshold : Obligations.TickAdaptsTheThreshold := fun s wp bp hseq =>
  ⟨_, exec_tick1s_of_idle wp bp s hseq, tickBlock_threshold_toNat ..⟩

/-- Down, the policy never leaves a threshold above the setpoint: the bias and the step are capped there, a
held threshold is below it, and any other resyncs (R158). -/
theorem thresholdNext_le_of_downNow (p : Params) {bp : Bool} {b : Block} (h : downNow bp b = true) :
    thresholdNext p bp b ≤ b.filt[3].toNat := by
  rw [thresholdNext, if_pos h]
  split_ifs <;> omega

/-- Settles O31: under either outcome of `tickBlock_threshold_toNat`. -/
theorem thresholdAtMostSetpointWhenDown : Obligations.ThresholdAtMostSetpointWhenDown := by
  intro s wp bp hseq hfound
  have hdown : downNow bp s.blk = true := by simpa [downNow] using hfound
  have hsetpoint : (tickBlock s.cfg.val s.port.btn wp bp s.blk).setpoint = s.blk.filt[3] := by
    rw [tickBlock_frame]
  refine ⟨_, exec_tick1s_of_idle wp bp s hseq, ?_⟩
  rw [State.answered_blk, hsetpoint, tickBlock_threshold_toNat]
  split
  · exact le_rfl
  · exact thresholdNext_le_of_downNow _ hdown

/-! ### The relaxation (R159) -/

/-- An idle machine recorded Down whose delay line holds the setpoint, the threshold at most the setpoint and
the ratio clear of it by the margin: the premises of R159, which every quiet evaluation keeps. -/
structure Relaxing (p : Params) (b : Block) : Prop where
  seq : b.seq = .idle
  isDown : b.isDown = true
  spD1 : b.spD1 = b.filt[3]
  spD2 : b.spD2 = b.filt[3]
  threshold_le : b.threshold.toNat ≤ b.filt[3].toNat
  margin : b.filt[3].toNat + p.thrMargin ≤ ratioNow b

/-- The ratio is not below the threshold, and no wind pre-alarm is given, so nothing alarms (R148, R174). -/
theorem Relaxing.alarmNow_eq_false {p : LegalParams} {b : Block} (h : Relaxing p.val b) :
    alarmNow p.val false false b = false := by
  have hpre : preAlarmNow b = false := by
    have hle := h.threshold_le
    have hmargin := h.margin
    exact decide_eq_false (by omega)
  have hwater : waterAlarmNow p.val false b = false :=
    Bool.eq_false_iff.mpr fun halarm => by simp [preAlarmNow_of_waterAlarmNow p halarm] at hpre
  simp [alarmNow, hwater, windAlarmNow]

/-- Down without an alarm part 5 does nothing (R178). -/
theorem Relaxing.tickBlock_eq_evaluate {p : LegalParams} {b : Block} (h : Relaxing p.val b) (btn : Bool) :
    tickBlock p.val btn false false b = (evaluate p.val false false b).blk := by
  have hdown : (evaluate p.val false false b).blk.isDown = true := by
    rw [evaluate_frame]
    exact h.isDown
  have hnothing : evaluationTransition (evaluate p.val false false b) = .nothing := by
    rw [evaluationTransition, alarmRaised_evaluate, h.alarmNow_eq_false, chooseTransition, if_pos hdown]
    rfl
  rw [tickBlock, hnothing, applyTransition]

/-- No rotation is seen, so one evaluation takes one step, capped at the setpoint (R152). -/
theorem Relaxing.thresholdNext_eq_min {p : Params} {b : Block} (h : Relaxing p b) :
    thresholdNext p false b = min (b.threshold.toNat + p.thrStep) b.filt[3].toNat := by
  have hsnap : snappedThreshold p b = b.threshold.toNat := by
    simp [snappedThreshold, h.spD2, distance]
  have hle := h.threshold_le
  have hdown : downNow false b = true := h.isDown
  rw [thresholdNext, if_pos hdown, if_neg Bool.false_ne_true, hsnap, if_pos h.margin]
  split <;> omega

/-- A quiet evaluation keeps the premises of R159. -/
theorem Relaxing.evaluate_keeps {p : Params} {b : Block} (h : Relaxing p b) :
    Relaxing p (evaluate p false false b).blk := by
  have hthreshold : (evaluate p false false b).blk.threshold.toNat ≤ b.filt[3].toNat := by
    rw [evaluate_threshold_toNat, h.thresholdNext_eq_min]
    exact min_le_right ..
  rw [evaluate_frame]
  exact ⟨h.seq, h.isDown, rfl, h.spD1, hthreshold, h.margin⟩

/-- A presented `TICK1S` runs when idle, and the port moves on (R80, R170). -/
theorem presentAndStep_tick1s_of_idle (wp bp btn : Bool) {s : State} (hseq : s.blk.seq = .idle) :
    ∃ t, presentAndStep (presentation (.tick1s wp bp) btn) s = .next t ∧ t.cfg = s.cfg
      ∧ t.blk = tickBlock s.cfg.val btn wp bp s.blk :=
  ⟨_, step_of_exec (decodeOfEncode (.tick1s wp bp))
    (exec_tick1s_of_idle wp bp (s.present (presentation (.tick1s wp bp) btn)) hseq), rfl, rfl⟩

/-- By induction on the evaluations: each takes one step towards the setpoint and keeps `Relaxing`. -/
theorem Relaxing.drive_ticks {s : State} (h : Relaxing s.cfg.val s.blk) (n : Nat) :
    ∃ t, drive (List.replicate n (presentation (.tick1s false false) false)) s = .next t
      ∧ t.blk.threshold.toNat
          = min (s.blk.threshold.toNat + n * s.cfg.val.thrStep) s.blk.filt[3].toNat
      ∧ sequencerOf t.blk = sequencerOf s.blk := by
  induction n generalizing s with
  | zero => exact ⟨s, rfl, by rw [Nat.zero_mul, Nat.add_zero, min_eq_left h.threshold_le], rfl⟩
  | succ n ih =>
    obtain ⟨t, hstep, hcfg, hblk⟩ := presentAndStep_tick1s_of_idle false false false h.seq
    rw [h.tickBlock_eq_evaluate] at hblk
    have hnext : Relaxing t.cfg.val t.blk := by
      rw [hcfg, hblk]
      exact h.evaluate_keeps
    obtain ⟨u, hrun, hthreshold, hsequencer⟩ := ih hnext
    refine ⟨u, (drive_cons hstep _).trans hrun, ?_, ?_⟩
    · have hfilt : t.blk.filt = s.blk.filt := by rw [hblk, evaluate_frame]
      rw [hthreshold, hcfg, hfilt, hblk, evaluate_threshold_toNat, h.thresholdNext_eq_min, Nat.succ_mul]
      omega
    · rw [hsequencer, hblk, evaluate_sequencerOf]

/-- Settles O41: its premises are `Relaxing`, which `witness_ThresholdRelaxes` shows to be met. -/
theorem thresholdRelaxesToTheSetpoint : Obligations.ThresholdRelaxesToTheSetpoint :=
  fun _ n hseq hdown hspD1 hspD2 hle hmargin =>
    Relaxing.drive_ticks ⟨hseq, hdown, hspD1, hspD2, hle, hmargin⟩ n

end Sys2Proof.Proofs
end

section
/-! PROOFS. `STEP` (43_actuator.md R184 to R193): what it does in each phase, as one equation per branch; what
every `STEP` does to the watchdog countdown (60_exceptions.md R225, R226) and so to the budget of idle
`STEP`s (70_reset_and_hazards.md R257); and what it leaves alone during a sequence. -/

namespace Sys2Proof.Proofs

open Sys2Proof.Machine

/-! ### One equation per branch -/

section Branches

variable (p : Params) (btn : Bool) {b : Block}

/-- An execution of `STEP`, from the equation of its branch. -/
theorem exec_step_of_stepBlock {s : State} {r : Block × U16}
    (h : stepBlock s.cfg.val s.port.btn s.blk = r) :
    exec .step s = .next (s.answered r.1 .ok r.2) := by
  rw [exec_step, h]

/-! The definition's match, phase by phase. -/

theorem stepBlock_of_idle (h : b.seq = .idle) : stepBlock p btn b = idleStep p b := by
  rw [stepBlock, h]

theorem stepBlock_of_settle1 (h : b.seq = .settle1) :
    stepBlock p btn b = settle1Step p (refreshWatchdog p b) := by
  rw [stepBlock, h]

theorem stepBlock_of_travel (h : b.seq = .travel) :
    stepBlock p btn b = travelStep p btn (refreshWatchdog p b) := by
  rw [stepBlock, h]

theorem stepBlock_of_settle2 (h : b.seq = .settle2) :
    stepBlock p btn b = settle2Step p btn (refreshWatchdog p b) := by
  rw [stepBlock, h]

theorem stepBlock_of_waitRel (h : b.seq = .waitRel) :
    stepBlock p btn b = waitRelStep p btn (refreshWatchdog p b) := by
  rw [stepBlock, h]

/-- An idle `STEP` with the watchdog counting (R225). -/
theorem stepBlock_idle (hseq : b.seq = .idle) (hack : b.wdgAck ≠ 0#16) :
    stepBlock p btn b = ({ b with wdgAck := b.wdgAck - 1#16 }, 0#16) :=
  (stepBlock_of_idle p btn hseq).trans (if_neg hack)

/-- A wait that is not over counts (R184); in `TRAVEL` the button is tested first (R185). -/
theorem stepBlock_count
    (hphase : b.seq = .settle1 ∨ (b.seq = .travel ∧ btn = false) ∨ b.seq = .settle2)
    (hcnt : 2 ≤ b.seqCnt.toNat) :
    stepBlock p btn b
      = ({ b with wdgAck := p.wdgAckReload, seqCnt := b.seqCnt - 1#16 }, 0#16) := by
  have hless : countedDown p (refreshWatchdog p b) = b.seqCnt - 1#16 :=
    countedDown_of_ne p (refreshWatchdog p b) (by simp only [refreshWatchdog_seqCnt]; bv_omega)
  have hmore : b.seqCnt - 1#16 ≠ 0#16 := by bv_omega
  rcases hphase with hseq | ⟨hseq, rfl⟩ | hseq
  · rw [stepBlock_of_settle1 p btn hseq, settle1Step, hless, if_neg hmore]
    rfl
  · rw [stepBlock_of_travel p false hseq, travelStep, hless, if_neg Bool.false_ne_true, if_neg hmore]
    rfl
  · rw [stepBlock_of_settle2 p btn hseq, settle2Step, hless, if_neg hmore]
    rfl

/-- The last `STEP` of a wait counts to 0 (R184). -/
theorem countedDown_refreshWatchdog_of_one (hcnt : b.seqCnt = 1#16) :
    countedDown p (refreshWatchdog p b) = 0#16 :=
  (countedDown_eq_zero_iff p (refreshWatchdog p b) (by simp [hcnt])).mpr hcnt

/-- The settling delay ends with power on (R188). -/
theorem stepBlock_powerOn (hseq : b.seq = .settle1) (hcnt : b.seqCnt = 1#16) :
    stepBlock p btn b
      = ({ b with wdgAck := p.wdgAckReload, drvPwr := true, seq := .travel,
                  seqCnt := travelTime p b.seqDir }, 0#16) := by
  rw [stepBlock_of_settle1 p btn hseq, settle1Step, countedDown_refreshWatchdog_of_one p hcnt, if_pos rfl]
  rfl

/-- A press ends the travel (R189). -/
theorem stepBlock_press (hseq : b.seq = .travel) (hbtn : btn = true) :
    stepBlock p btn b
      = ({ b with wdgAck := p.wdgAckReload, seqPressed := true, drvPwr := false, seq := .settle2,
                  seqCnt := p.tPostSettle }, 0#16) := by
  rw [stepBlock_of_travel p btn hseq, travelStep, if_pos hbtn]
  rfl

/-- The travel time ends with power off (R189). -/
theorem stepBlock_arrive (hseq : b.seq = .travel) (hbtn : btn = false) (hcnt : b.seqCnt = 1#16) :
    stepBlock p btn b
      = ({ b with wdgAck := p.wdgAckReload, drvPwr := false, seq := .settle2,
                  seqCnt := p.tPostSettle }, 0#16) := by
  rw [stepBlock_of_travel p btn hseq, travelStep, countedDown_refreshWatchdog_of_one p hcnt,
    if_neg (Bool.eq_false_iff.mp hbtn), if_pos rfl]
  rfl

/-- The last `STEP` of the further settle delay (R190). -/
theorem stepBlock_lastSettle2 (hseq : b.seq = .settle2) (hcnt : b.seqCnt = 1#16) :
    stepBlock p btn b
      = if b.seqPressed then
          if btn then ({ b with wdgAck := p.wdgAckReload, seqCnt := 0#16, seq := .waitRel }, 0#16)
          else (finish p .interrupted (refreshWatchdog p b), 6#16)
        else (finish p .completed (refreshWatchdog p b), 5#16) := by
  rw [stepBlock_of_settle2 p btn hseq, settle2Step, countedDown_refreshWatchdog_of_one p hcnt,
    if_pos rfl]
  rfl

/-- Without a recorded press it completes the sequence. -/
theorem stepBlock_complete (hseq : b.seq = .settle2) (hcnt : b.seqCnt = 1#16)
    (hpressed : b.seqPressed = false) :
    stepBlock p btn b = (finish p .completed (refreshWatchdog p b), 5#16) := by
  rw [stepBlock_lastSettle2 p btn hseq hcnt, hpressed, if_neg Bool.false_ne_true]

/-- With the recorded press still held it leads to `WAITREL` (R192). -/
theorem stepBlock_hold (hseq : b.seq = .settle2) (hcnt : b.seqCnt = 1#16)
    (hpressed : b.seqPressed = true) (hbtn : btn = true) :
    stepBlock p btn b
      = ({ b with wdgAck := p.wdgAckReload, seqCnt := 0#16, seq := .waitRel }, 0#16) := by
  rw [stepBlock_lastSettle2 p btn hseq hcnt, if_pos hpressed, if_pos hbtn]

/-- `WAITREL` lasts while the button is held (R192). -/
theorem stepBlock_wait (hseq : b.seq = .waitRel) (hbtn : btn = true) :
    stepBlock p btn b = ({ b with wdgAck := p.wdgAckReload }, 0#16) := by
  rw [stepBlock_of_waitRel p btn hseq, waitRelStep, if_pos hbtn]
  rfl

/-- A block in which a recorded press only waits for the button's release: at the last `STEP` of `SETTLE2`,
and in `WAITREL` (R192). -/
def AwaitsRelease (b : Block) : Prop :=
  (b.seq = .settle2 ∧ b.seqCnt = 1#16 ∧ b.seqPressed = true) ∨ b.seq = .waitRel

/-- The release ends the sequence (R192). -/
theorem stepBlock_release (h : AwaitsRelease b) (hbtn : btn = false) :
    stepBlock p btn b = (finish p .interrupted (refreshWatchdog p b), 6#16) := by
  have hopen : ¬ btn = true := Bool.eq_false_iff.mp hbtn
  rcases h with ⟨hseq, hcnt, hpressed⟩ | hseq
  · rw [stepBlock_lastSettle2 p btn hseq hcnt, if_pos hpressed, if_neg hopen]
  · rw [stepBlock_of_waitRel p btn hseq, waitRelStep, if_neg hopen]
    rfl

end Branches

/-! ### The statements of R185 to R187, R190 and R192 -/

/-- Settles O43: the two branches of an idle `STEP`. -/
theorem idleStepCountsDownOrResets : Obligations.IdleStepCountsDownOrResets := by
  intro s hseq
  refine ⟨fun hack => ⟨s.blk.wdgAck - 1#16, by bv_omega, ?_⟩, exec_step_of_reset s hseq⟩
  exact exec_step_of_stepBlock (stepBlock_idle _ _ hseq hack)

/-- The travel time as the rule writes it (R189). -/
theorem travelTime_eq_ite (p : Params) (d : Direction) :
    travelTime p d = if d = .up then p.tTravelUp else p.tTravelDown := by
  cases d <;> rfl

/-- Settles O44, branch by branch. -/
theorem stepAdvancesTheSequence : Obligations.StepAdvancesTheSequence := by
  intro s hpos less reload
  have hmore (hne : s.blk.seqCnt ≠ 1#16) : 2 ≤ s.blk.seqCnt.toNat := by bv_omega
  refine ⟨fun hseq hne => ?count1, fun hseq hone => ?powerOn, fun hseq hbtn => ?press,
    fun hseq hbtn hne => ?count, fun hseq hbtn hone => ?arrive, fun hseq hne => ?count2⟩
  case count1 => exact exec_step_of_stepBlock (stepBlock_count _ _ (.inl hseq) (hmore hne))
  case powerOn =>
    rw [← travelTime_eq_ite]
    exact exec_step_of_stepBlock (stepBlock_powerOn _ _ hseq hone)
  case press => exact exec_step_of_stepBlock (stepBlock_press _ _ hseq hbtn)
  case count =>
    exact exec_step_of_stepBlock (stepBlock_count _ _ (.inr (.inl ⟨hseq, hbtn⟩)) (hmore hne))
  case arrive => exact exec_step_of_stepBlock (stepBlock_arrive _ _ hseq hbtn hone)
  case count2 => exact exec_step_of_stepBlock (stepBlock_count _ _ (.inr (.inr hseq)) (hmore hne))

/-- Settles O45: `finish` is `endSequence` and the continuation that was pending, for each of the three. -/
theorem sequenceEndRunsTheContinuation : Obligations.SequenceEndRunsTheContinuation := by
  intro s reload ended cleared completed interrupted
  have hcompleted : finish s.cfg.val .completed (refreshWatchdog s.cfg.val s.blk) = completed := by
    rw [finish, refreshWatchdog_seqCont]
    dsimp only [completed]
    cases s.blk.seqCont <;> rfl
  have hinterrupted :
      finish s.cfg.val .interrupted (refreshWatchdog s.cfg.val s.blk) = interrupted := by
    rw [finish, refreshWatchdog_seqCont]
    dsimp only [interrupted]
    have hfallback := fallbackThreshold_eq_ite s.cfg.val s.blk
    cases s.blk.seqCont with
    | none => rfl
    | raise => rw [← hfallback]; rfl
    | lower => rw [← hfallback]; rfl
  have hrelease (hawaits : AwaitsRelease s.blk) (hbtn : s.port.btn = false) :
      exec .step s = .next (s.answered interrupted .ok 0x0006#16) := by
    rw [← hinterrupted]
    exact exec_step_of_stepBlock (stepBlock_release _ _ hawaits hbtn)
  refine ⟨fun hseq hone hpressed => ?complete,
    fun hseq hone hpressed => hrelease (.inl ⟨hseq, hone, hpressed⟩),
    fun hseq hone hpressed hbtn => ?hold, fun hseq hbtn => ?wait, fun hseq => hrelease (.inr hseq)⟩
  case complete =>
    rw [← hcompleted]
    exact exec_step_of_stepBlock (stepBlock_complete _ _ hseq hone hpressed)
  case hold => exact exec_step_of_stepBlock (stepBlock_hold _ _ hseq hone hpressed hbtn)
  case wait => exact exec_step_of_stepBlock (stepBlock_wait _ _ hseq hbtn)

/-! ### The watchdog countdown and the budget -/

/-- Bits 3 and 2 of the data (R90). -/
theorem stepData_bits (wdtReset seqDone : Bool) (res : ActResult) :
    (stepData wdtReset seqDone res).getLsbD 3 = wdtReset
      ∧ (stepData wdtReset seqDone res).getLsbD 2 = seqDone := by
  cases wdtReset <;> cases seqDone <;> cases res <;> decide

/-- Only an idle `STEP` that finds the countdown at 0 reports a reset (R226). -/
theorem StepEffect.wdtReset_eq_false {p : Params} {btn : Bool} {b : Block} {r : Block × U16}
    (h : StepEffect p btn b r) (hack : b.seq = .idle → b.wdgAck ≠ 0#16) :
    r.2.getLsbD 3 = false := by
  cases h with
  | reset hseq hzero => exact absurd hzero (hack hseq)
  | idleCount => exact (stepData_bits ..).1
  | count => exact (stepData_bits ..).1
  | powerOn => exact (stepData_bits ..).1
  | press => exact (stepData_bits ..).1
  | arrive => exact (stepData_bits ..).1
  | hold => exact (stepData_bits ..).1
  | wait => exact (stepData_bits ..).1
  | complete => exact (stepData_bits ..).1
  | interrupt => exact (stepData_bits ..).1

theorem finish_wdgAck (p : Params) (res : ActResult) (b : Block) :
    (finish p res b).wdgAck = b.wdgAck := by
  rw [finish, applyCont_frame, endSequence_wdgAck]

/-- Every `STEP` of a sequence reloads the countdown (R193). -/
theorem StepEffect.wdgAck_of_busy {p : Params} {btn : Bool} {b : Block} {r : Block × U16}
    (h : StepEffect p btn b r) (hbusy : b.seq ≠ .idle) : r.1.wdgAck = p.wdgAckReload := by
  cases h with
  | reset hseq => exact absurd hseq hbusy
  | idleCount hseq => exact absurd hseq hbusy
  | count => rfl
  | powerOn => rfl
  | press => rfl
  | arrive => rfl
  | hold => rfl
  | wait => rfl
  | complete => exact finish_wdgAck ..
  | interrupt => exact finish_wdgAck ..

/-- What a `STEP` that finds a sequence in progress leaves as it was: the filter bank, the setpoint with its
delay line, the minimum and the flags. -/
theorem StepEffect.frame_of_busy {p : Params} {btn : Bool} {b : Block} {r : Block × U16}
    (h : StepEffect p btn b r) (hbusy : b.seq ≠ .idle) :
    r.1.filt = b.filt ∧ r.1.prev = b.prev ∧ r.1.setpoint = b.setpoint
      ∧ r.1.minimumSeen = b.minimumSeen ∧ r.1.alarmFlags = b.alarmFlags ∧ r.1.spD1 = b.spD1
      ∧ r.1.spD2 = b.spD2 := by
  have hfinish (res : ActResult) : finish p res (refreshWatchdog p b)
      = { finish p res (refreshWatchdog p b) with
          filt := b.filt, prev := b.prev, setpoint := b.setpoint, minimumSeen := b.minimumSeen,
          alarmFlags := b.alarmFlags, spD1 := b.spD1, spD2 := b.spD2 } := by
    rw [finish, applyCont_frame]
    rfl
  cases h with
  | reset hseq => exact absurd hseq hbusy
  | idleCount hseq => exact absurd hseq hbusy
  | count => exact ⟨rfl, rfl, rfl, rfl, rfl, rfl, rfl⟩
  | powerOn => exact ⟨rfl, rfl, rfl, rfl, rfl, rfl, rfl⟩
  | press => exact ⟨rfl, rfl, rfl, rfl, rfl, rfl, rfl⟩
  | arrive => exact ⟨rfl, rfl, rfl, rfl, rfl, rfl, rfl⟩
  | hold => exact ⟨rfl, rfl, rfl, rfl, rfl, rfl, rfl⟩
  | wait => exact ⟨rfl, rfl, rfl, rfl, rfl, rfl, rfl⟩
  | complete =>
    rw [hfinish]
    exact ⟨rfl, rfl, rfl, rfl, rfl, rfl, rfl⟩
  | interrupt =>
    rw [hfinish]
    exact ⟨rfl, rfl, rfl, rfl, rfl, rfl, rfl⟩

/-- Until it ends the sequence, it leaves the threshold, the record, the mode, the timer and the alarm memory
as they were. -/
theorem StepEffect.frame_of_not_done {p : Params} {btn : Bool} {b : Block} {r : Block × U16}
    (h : StepEffect p btn b r) (hbusy : b.seq ≠ .idle) (hdone : r.2.getLsbD 2 = false) :
    r.1.threshold = b.threshold ∧ r.1.isDown = b.isDown ∧ r.1.isAuto = b.isAuto
      ∧ r.1.autoDownTimer = b.autoDownTimer ∧ alarmMemoryOf r.1 = alarmMemoryOf b := by
  have hbit (res : ActResult) : (stepData false true res).getLsbD 2 = true := (stepData_bits ..).2
  cases h with
  | reset hseq => exact absurd hseq hbusy
  | idleCount hseq => exact absurd hseq hbusy
  | count => exact ⟨rfl, rfl, rfl, rfl, rfl⟩
  | powerOn => exact ⟨rfl, rfl, rfl, rfl, rfl⟩
  | press => exact ⟨rfl, rfl, rfl, rfl, rfl⟩
  | arrive => exact ⟨rfl, rfl, rfl, rfl, rfl⟩
  | hold => exact ⟨rfl, rfl, rfl, rfl, rfl⟩
  | wait => exact ⟨rfl, rfl, rfl, rfl, rfl⟩
  | complete => exact absurd hdone (by simp [hbit])
  | interrupt => exact absurd hdone (by simp [hbit])

/-- Settles O53: the watchdog, the frame and the data of a `STEP` during a sequence. -/
theorem noResetInMidMotion : Obligations.NoResetInMidMotion := by
  intro s t hbusy hexec
  rw [exec_step] at hexec
  cases hexec
  have heffect := stepBlock_effect s.cfg.val s.port.btn s.blk
  obtain ⟨hfilt, hprev, hsetpoint, hminimum, hflags, hspD1, hspD2⟩ := heffect.frame_of_busy hbusy
  exact ⟨heffect.wdgAck_of_busy hbusy, hfilt, hprev, hsetpoint, hminimum, hflags, hspD1, hspD2, _, rfl, rfl,
    heffect.wdtReset_eq_false fun hseq => absurd hseq hbusy, heffect.frame_of_not_done hbusy⟩

/-- An operation other than `STEP` leaves the countdown or reloads it (R225). -/
theorem Effect.wdgAck {p : Params} {btn : Bool} {b b' : Block} {i : Instr}
    (h : Effect p btn b i b') (hi : i ≠ .step) :
    b'.wdgAck = b.wdgAck ∨ b'.wdgAck = p.wdgAckReload := by
  cases h with
  | unchanged => exact .inl rfl
  | sample ch raw =>
    rw [sampleBlock_frame]
    exact .inl rfl
  | tick wp bp =>
    rw [tickBlock_frame]
    exact .inr rfl
  | move d =>
    rw [startMove_frame]
    exact .inr rfl
  | step => exact absurd rfl hi
  | wdgack => exact .inr rfl

/-- After a `TICK1S` of a lawful block the countdown is full: reloaded when idle, and full during a sequence,
where the `TICK1S` is refused (R193, R196, R225). -/
theorem wdgAck_of_exec_tick1s {s t : State} {wp bp : Bool} (h : Lawful s)
    (hexec : exec (.tick1s wp bp) s = .next t) : t.blk.wdgAck = s.cfg.val.wdgAckReload := by
  obtain ⟨-, -, -, -, -, -, -, hfull, -⟩ := h
  by_cases hseq : s.blk.seq = .idle
  · rw [exec_tick1s_of_idle wp bp s hseq] at hexec
    cases hexec
    rw [State.answered_blk, tickBlock_frame]
  · rw [exec_tick1s_of_busy wp bp s hseq] at hexec
    cases hexec
    exact hfull hseq

/-- And so after a `MOVE`. -/
theorem wdgAck_of_exec_move {s t : State} {d : Direction} (h : Lawful s)
    (hexec : exec (.move d) s = .next t) : t.blk.wdgAck = s.cfg.val.wdgAckReload := by
  obtain ⟨-, -, -, -, -, -, -, hfull, -⟩ := h
  by_cases hseq : s.blk.seq = .idle
  · rw [exec_move_of_idle d s hseq] at hexec
    cases hexec
    rw [State.answered_blk, startMove_frame]
    rfl
  · rw [exec_move_of_busy d s hseq] at hexec
    cases hexec
    exact hfull hseq

/-- An idle `STEP` within the budget takes one of it (R257). -/
theorem budgetNext_of_idle_step {s : State} {w : CmdWord} {left left' : Nat}
    (hdecode : decode w = .ok .step) (hseq : s.blk.seq = .idle)
    (h : budgetNext left s w = some left') : 1 ≤ left ∧ left' = left - 1 := by
  simp only [budgetNext, hdecode, hseq, if_true] at h
  by_cases hzero : left = 0
  · simp [hzero] at h
  · rw [if_neg hzero] at h
    exact ⟨Nat.pos_of_ne_zero hzero, (Option.some.inj h).symm⟩

/-- A `STEP` of a sequence restores it all. -/
theorem budgetNext_of_busy_step {s : State} {w : CmdWord} (left : Nat)
    (hdecode : decode w = .ok .step) (hseq : s.blk.seq ≠ .idle) :
    budgetNext left s w = some s.cfg.val.wdgAckReload.toNat := by
  simp [budgetNext, hdecode, hseq]

/-- The watchdog countdown covers what is left of the budget: a `STEP` takes one of both when idle and fills
both during a sequence, the words that restore the budget leave the countdown full, and no other word
lowers it. -/
theorem budget_le_wdgAck_of_exec {s t : State} {i : Instr} {w : CmdWord} {left left' : Nat}
    (hlawful : Lawful s) (hle : left ≤ s.blk.wdgAck.toNat) (hdecode : decode w = .ok i)
    (hbudget : budgetNext left s w = some left') (hexec : exec i s = .next t) :
    left' ≤ t.blk.wdgAck.toNat := by
  have hkeeps (hi : i ≠ .step) : left ≤ t.blk.wdgAck.toNat := by
    obtain ⟨-, -, -, -, -, -, hreload, -⟩ := hlawful
    rcases (effect_of_exec hexec).wdgAck hi with h | h <;> rw [h]
    · exact hle
    · exact hle.trans hreload
  have hleft := hbudget
  rw [budgetNext, hdecode] at hleft
  cases i with
  | step =>
    rw [exec_step] at hexec
    cases hexec
    rw [State.answered_blk]
    by_cases hseq : s.blk.seq = .idle
    · obtain ⟨hone, rfl⟩ := budgetNext_of_idle_step hdecode hseq hbudget
      have hack : s.blk.wdgAck ≠ 0#16 := by bv_omega
      rw [stepBlock_idle _ _ hseq hack]
      dsimp only
      bv_omega
    · cases (budgetNext_of_busy_step left hdecode hseq).symm.trans hbudget
      rw [(stepBlock_effect ..).wdgAck_of_busy hseq]
  | nop => cases hleft; exact hkeeps (by simp)
  | sample ch raw => cases hleft; exact hkeeps (by simp)
  | rdfilt ch => cases hleft; exact hkeeps (by simp)
  | rdstat idx => cases hleft; exact hkeeps (by simp)
  | tick1s wp bp => cases hleft; rw [wdgAck_of_exec_tick1s hlawful hexec]
  | move d => cases hleft; rw [wdgAck_of_exec_move hlawful hexec]
  | wdgack => cases hleft; cases hexec; exact le_rfl

/-- A word within the budget reports no reset: an idle `STEP` finds the countdown above 0 (R226, R257). -/
theorem reportsReset_eq_false_of_budget {s t : State} {left left' : Nat}
    (hle : left ≤ s.blk.wdgAck.toNat) (hbudget : budgetNext left s s.port.cmd = some left')
    (hstep : step s = .next t) : reportsReset (s.port.cmd, t.port.resp) = false := by
  rcases step_cases s with ⟨i, b, st, d, hdecode, hexec, hanswer⟩ | ⟨e, hdecode, -⟩
  · cases hstep.symm.trans hanswer
    cases i with
    | step =>
      have hack (hseq : s.blk.seq = .idle) : s.blk.wdgAck ≠ 0#16 := by
        obtain ⟨hone, -⟩ := budgetNext_of_idle_step hdecode hseq hbudget
        bv_omega
      cases hexec
      simpa [reportsReset, hdecode] using (stepBlock_effect ..).wdtReset_eq_false hack
    | _ => simp [reportsReset, hdecode]
  · simp [reportsReset, hdecode]

/-- Settles O51: the invariant is kept by every step, the other two parts by a step within the budget. -/
theorem fedWatchdogStepKeepsTheBudget : Obligations.FedWatchdogStepKeepsTheBudget := by
  intro s t left left' hlawful hle hbudget hstep
  refine ⟨everyStepKeepsTheInvariants s t hlawful hstep, ?_,
    reportsReset_eq_false_of_budget hle hbudget hstep⟩
  rcases step_cases s with ⟨i, b, st, d, hdecode, hexec, hanswer⟩ | ⟨e, hdecode, hanswer⟩ <;>
    cases hstep.symm.trans hanswer
  · have hcovered := budget_le_wdgAck_of_exec hlawful hle hdecode hbudget hexec
    exact hcovered
  · simp only [budgetNext, hdecode, Option.some.injEq] at hbudget
    exact hbudget ▸ hle

/-- Settles O13: the machine's own reset state is the one of its parameter record. -/
theorem resetStateIsLawful : Obligations.ResetStateIsLawful :=
  ⟨fun p => blockLawful_reset p.val, blockLawful_reset Config.legalParams.val⟩

/-- Settles O28: a refusal keeps the block. -/
theorem busyWhileASequenceRuns : Obligations.BusyWhileASequenceRuns := fun s hbusy =>
  ⟨fun wp bp => exec_tick1s_of_busy wp bp s hbusy, fun d => exec_move_of_busy d s hbusy⟩

end Sys2Proof.Proofs
end

section
/-! PROOFS. The transitions of `TICK1S` (43_actuator.md R173, R175 to R179): which one an evaluation leads to,
what an invoked actuation does to the state machine, and the five rows of R179. -/

namespace Sys2Proof.Proofs

open Sys2Proof.Machine

/-! ### The choice of part 5, on the state before the evaluation -/

section Choice

variable {p : Params} {wp bp : Bool} {b : Block}

theorem evaluate_isDown (p : Params) (wp bp : Bool) (b : Block) :
    (evaluate p wp bp b).blk.isDown = downNow bp b := by
  rw [evaluate_frame]

theorem evaluate_isAuto (p : Params) (wp bp : Bool) (b : Block) :
    (evaluate p wp bp b).blk.isAuto = autoNow bp b := by
  rw [evaluate_frame]

theorem evaluate_autoDownTimer (p : Params) (wp bp : Bool) (b : Block) :
    (evaluate p wp bp b).blk.autoDownTimer = b.autoDownTimer := by
  rw [evaluate_frame]

theorem evaluate_drvPwr (p : Params) (wp bp : Bool) (b : Block) :
    (evaluate p wp bp b).blk.drvPwr = b.drvPwr := by
  rw [evaluate_frame]

/-- The table of R179. -/
theorem evaluationTransition_evaluate (p : Params) (wp bp : Bool) (b : Block) :
    evaluationTransition (evaluate p wp bp b)
      = if downNow bp b then (if alarmNow p wp bp b then .raise else .nothing)
        else if alarmNow p wp bp b then .defer
        else if autoNow bp b then (if b.autoDownTimer.toNat ≤ 1 then .lower else .count)
        else .nothing := by
  rw [evaluationTransition, chooseTransition, alarmRaised_evaluate, evaluate_isDown, evaluate_isAuto,
    evaluate_autoDownTimer]
  simp only [tickTimer_eq_zero_iff]

/-- Down and an alarm (R175). -/
theorem evaluationTransition_raise (hdown : downNow bp b = true) (halarm : alarmNow p wp bp b = true) :
    evaluationTransition (evaluate p wp bp b) = .raise := by
  simp [evaluationTransition_evaluate, hdown, halarm]

/-- Up and an alarm (R176). -/
theorem evaluationTransition_defer (hup : downNow bp b = false) (halarm : alarmNow p wp bp b = true) :
    evaluationTransition (evaluate p wp bp b) = .defer := by
  simp [evaluationTransition_evaluate, hup, halarm]

/-- Up, Auto and no alarm, by the timer (R177). -/
theorem evaluationTransition_upAuto (hup : downNow bp b = false) (hauto : autoNow bp b = true)
    (hquiet : alarmNow p wp bp b = false) :
    evaluationTransition (evaluate p wp bp b)
      = if b.autoDownTimer.toNat ≤ 1 then .lower else .count := by
  simp [evaluationTransition_evaluate, hup, hauto, hquiet]

/-- Every other case (R178). -/
theorem evaluationTransition_nothing (h : downNow bp b = true ∨ autoNow bp b = false)
    (hquiet : alarmNow p wp bp b = false) :
    evaluationTransition (evaluate p wp bp b) = .nothing := by
  rcases h with hdown | hmanual
  · simp [evaluationTransition_evaluate, hdown, hquiet]
  · simp [evaluationTransition_evaluate, hmanual, hquiet]

end Choice

/-! ### An invoked actuation -/

section Invoked

variable (p : Params) (dir : Direction) {cont : Sys2Proof.Machine.Cont} (b : Block)

theorem startMove_of_released :
    startMove p false dir cont b = beginSequence p dir cont b := rfl

/-- The refusal of a start that has a continuation runs it at once (R180, R187). -/
theorem startMove_of_pressed (hcont : cont ≠ .none) :
    startMove p true dir cont b = fallBackToManual p { b with lastResult := .interrupted } :=
  applyCont_interrupted p hcont _

/-- A refused start leaves Manual, recorded Down, the alarm memory clear and the timer as it was, and of the
sequencer and the pins it moves the last result only (R182, R187). -/
theorem startMove_of_pressed_effect (hcont : cont ≠ .none) :
    sequencerOf (startMove p true dir cont b) = sequencerOf { b with lastResult := .interrupted }
      ∧ (startMove p true dir cont b).isDown = true ∧ (startMove p true dir cont b).isAuto = false
      ∧ (startMove p true dir cont b).autoDownTimer = b.autoDownTimer
      ∧ alarmMemoryOf (startMove p true dir cont b) = clearMemory := by
  rw [startMove_of_pressed p dir b hcont]
  exact ⟨rfl, rfl, rfl, rfl, rfl⟩

/-- An evaluation moves no sequencer element, so a start refused after it has moved the last result only. -/
theorem evaluate_sequencerOf_interrupted (wp bp : Bool) :
    sequencerOf { (evaluate p wp bp b).blk with lastResult := .interrupted }
      = sequencerOf { b with lastResult := .interrupted } :=
  congrArg (fun v : SequencerView => { v with lastResult := .interrupted })
    (evaluate_sequencerOf p wp bp b)

end Invoked

/-! ### The rows of R179 -/

/-- Settles O34: the transition is the raise. -/
theorem downAndAlarmInvokesRaise : Obligations.DownAndAlarmInvokesRaise := by
  intro s wp bp hseq hdown halarm
  refine ⟨_, exec_tick1s_of_idle wp bp s hseq, ?_⟩
  rw [State.answered_blk, tickBlock, evaluationTransition_raise hdown halarm, applyTransition]
  have htimer := evaluate_autoDownTimer s.cfg.val wp bp s.blk
  cases s.port.btn with
  | false =>
    rw [startMove_of_released]
    refine ⟨(evaluate_isDown ..).trans hdown, htimer, fun _ => ⟨?_, evaluate_isAuto .., ?_⟩, nofun⟩
    · rw [← evaluate_drvPwr s.cfg.val wp bp s.blk]
      rfl
    · exact evaluate_waterAlarmCount_toNat ..
  | true =>
    obtain ⟨hview, hrecord, hmanual, hkept, hmemory⟩ := startMove_of_pressed_effect s.cfg.val .up
      (evaluate s.cfg.val wp bp s.blk).blk (cont := .raise) nofun
    exact ⟨hrecord, hkept.trans htimer, nofun,
      fun _ => ⟨hview.trans (evaluate_sequencerOf_interrupted ..), hmanual, hmemory⟩⟩

/-- Settles O35: the transition writes the timer, after an evaluation that keeps the law of `GUST`. -/
theorem upAndAlarmReloadsTheTimer : Obligations.UpAndAlarmReloadsTheTimer := by
  intro s wp bp hseq hup halarm
  obtain ⟨rfl, -⟩ : bp = false ∧ s.blk.isDown = false := by simpa [downNow] using hup
  refine ⟨_, exec_tick1s_of_idle wp false s hseq, ?_⟩
  rw [State.answered_blk, tickBlock, evaluationTransition_defer hup halarm, applyTransition]
  exact ⟨rfl, (evaluate_isDown ..).trans hup, evaluate_isAuto s.cfg.val wp false s.blk,
    evaluate_waterAlarmCount_toNat .., evaluate_gustLaw s.cfg wp false s.blk, evaluate_sequencerOf ..⟩

/-- Settles O36: at a timer of 2 or more the transition is the count, at 1 or 0 the lowering. -/
theorem upAutoQuietCountsDownAndLowers : Obligations.UpAutoQuietCountsDownAndLowers := by
  intro s wp bp hseq hup hauto hquiet
  refine ⟨_, exec_tick1s_of_idle wp bp s hseq, ?_⟩
  rw [State.answered_blk, tickBlock, evaluationTransition_upAuto hup hauto hquiet]
  have hisDown := (evaluate_isDown s.cfg.val wp bp s.blk).trans hup
  have hisAuto := (evaluate_isAuto s.cfg.val wp bp s.blk).trans hauto
  have hcount := evaluate_waterAlarmCount_toNat s.cfg.val wp bp s.blk
  have htimer : (tickTimer (evaluate s.cfg.val wp bp s.blk).blk.autoDownTimer).toNat
      = s.blk.autoDownTimer.toNat - 1 := by rw [evaluate_autoDownTimer, tickTimer_toNat]
  split <;> rename_i hle <;> rw [applyTransition]
  · cases s.port.btn with
    | false =>
      rw [startMove_of_released]
      refine ⟨htimer, fun hge => absurd hle (by omega),
        fun _ _ => ⟨?_, hisDown, hisAuto, hcount⟩, nofun⟩
      rw [← evaluate_drvPwr s.cfg.val wp bp s.blk]
      rfl
    | true =>
      obtain ⟨hview, hrecord, hmanual, hkept, hmemory⟩ := startMove_of_pressed_effect s.cfg.val .down
        { (evaluate s.cfg.val wp bp s.blk).blk with
          autoDownTimer := tickTimer (evaluate s.cfg.val wp bp s.blk).blk.autoDownTimer }
        (cont := .lower) nofun
      exact ⟨(congrArg BitVec.toNat hkept).trans htimer, fun hge => absurd hle (by omega), nofun,
        fun _ _ => ⟨hview.trans (evaluate_sequencerOf_interrupted ..), hrecord, hmanual, hmemory⟩⟩
  · exact ⟨htimer, fun _ => ⟨evaluate_sequencerOf .., hisDown, hisAuto, hcount⟩,
      fun hless => absurd hless hle, fun hless => absurd hless hle⟩

/-- Settles O37: there is no transition. -/
theorem otherwiseNoTransition : Obligations.OtherwiseNoTransition := by
  intro s wp bp hseq hrow hquiet
  refine ⟨_, exec_tick1s_of_idle wp bp s hseq, ?_⟩
  rw [State.answered_blk, tickBlock, evaluationTransition_nothing hrow hquiet, applyTransition]
  exact ⟨evaluate_sequencerOf .., evaluate_autoDownTimer .., evaluate_isDown .., evaluate_isAuto ..,
    evaluate_waterAlarmCount_toNat ..⟩

/-! ### The override (R173) -/

/-- One evaluation counts one pre-alarm at most on the memory that the override has cleared. -/
theorem countNext_override_le (p : Params) (b : Block) : countNext p true b ≤ 1 := by
  unfold countNext
  split
  · exact min_le_left ..
  · exact Nat.zero_le _

/-- So it cannot alarm where an alarm takes two pre-alarms (R170, corner case a). -/
theorem alarmNow_override_eq_false {p : Params} (wp : Bool) {b : Block}
    (hwater : 2 ≤ p.waterAlmTime.toNat) (hgust : 2 ≤ p.gustN) : alarmNow p wp true b = false := by
  have hcount := countNext_override_le p b
  have hk : ¬ p.k ≤ stillActive p true b := by
    simp only [stillActive, if_true, Params.k]
    omega
  have hnoWater : waterAlarmNow p true b = false := decide_eq_false (by omega)
  rw [alarmNow, hnoWater, windAlarmNow, decide_eq_false hk, Bool.and_false, Bool.or_false]

/-- Bits 6 to 4 of the data where no actuation is invoked (R90). -/
theorem tickData_none_extract (flags : BitVec 4) :
    (tickData false .none flags).extractLsb' 4 3 = 0#3 := by
  revert flags
  decide

/-- The record, the mode and the timer that an override leaves, whether or not a raise follows it. -/
theorem tickBlock_override (p : Params) (btn wp : Bool) (b : Block) :
    (tickBlock p btn wp true b).isAuto = false ∧ (tickBlock p btn wp true b).isDown = true
      ∧ (tickBlock p btn wp true b).autoDownTimer = b.autoDownTimer := by
  have hisAuto : (evaluate p wp true b).blk.isAuto = false := evaluate_isAuto ..
  have hisDown : (evaluate p wp true b).blk.isDown = true := evaluate_isDown ..
  have htimer := evaluate_autoDownTimer p wp true b
  cases halarm : alarmNow p wp true b with
  | false =>
    rw [tickBlock, evaluationTransition_nothing (.inl rfl) halarm, applyTransition]
    exact ⟨hisAuto, hisDown, htimer⟩
  | true =>
    rw [tickBlock, evaluationTransition_raise rfl halarm, applyTransition]
    cases btn with
    | false => exact ⟨hisAuto, hisDown, htimer⟩
    | true =>
      obtain ⟨-, hrecord, hmanual, hkept, -⟩ := startMove_of_pressed_effect p .up
        (evaluate p wp true b).blk (cont := .raise) nofun
      exact ⟨hmanual, hrecord, hkept.trans htimer⟩

/-- Settles O33: where no alarm can follow the override there is no transition. -/
theorem manualOverride : Obligations.ManualOverride := by
  intro s wp hseq
  obtain ⟨hmanual, hrecord, htimer⟩ := tickBlock_override s.cfg.val s.port.btn wp s.blk
  refine ⟨_, _, exec_tick1s_of_idle wp true s hseq, rfl, hmanual, hrecord, htimer, fun hwater hgust => ?_⟩
  have hquiet : alarmNow s.cfg.val wp true s.blk = false := alarmNow_override_eq_false wp hwater hgust
  rw [State.answered_blk, tickBlock, evaluationTransition_nothing (.inl rfl) hquiet, applyTransition,
    evaluate_waterAlarmCount_toNat]
  exact ⟨evaluate_sequencerOf .., tickData_none_extract _, countNext_override_le ..⟩

end Sys2Proof.Proofs
end

section
/-! PROOFS. Runs of `STEP`s through a sequence (43_actuator.md R184, R192, R194) and the raise that a held
water pre-alarm leads to (R174, R175, R195): each wait is one run of counting `STEP`s and one `STEP` that ends
it, and the statements put the waits together. -/

namespace Sys2Proof.Proofs

open Sys2Proof.Machine

/-! ### Runs -/

theorem drive_append {s t : State} {before : List Input} (h : drive before s = .next t)
    (after : List Input) : drive (before ++ after) s = drive after t := by
  induction before generalizing s with
  | nil => cases h; rfl
  | cons i before ih =>
    obtain ⟨b, st, d, hstep⟩ := step_eq_next_answered (s.present i)
    rw [drive_cons hstep] at h
    exact (drive_cons hstep _).trans (ih h)

/-- `STEP`s at these levels of `btn` lead from `s` to `t`. -/
def StepsTo (levels : List Bool) (s t : State) : Prop :=
  drive (levels.map (presentation .step)) s = .next t ∧ t.cfg = s.cfg

theorem StepsTo.drive_replicate {s t : State} {n : Nat} {btn : Bool}
    (h : StepsTo (List.replicate n btn) s t) :
    drive (List.replicate n (presentation .step btn)) s = .next t := by
  rw [← List.map_replicate]
  exact h.1

theorem StepsTo.append {s t u : State} {before after : List Bool} (h : StepsTo before s t)
    (h' : StepsTo after t u) : StepsTo (before ++ after) s u := by
  obtain ⟨hrun, hcfg⟩ := h
  obtain ⟨hrun', hcfg'⟩ := h'
  refine ⟨?_, hcfg'.trans hcfg⟩
  rw [List.map_append, drive_append hrun, hrun']

/-- A run over a first part of two stretches that ends in the second. -/
theorem StepsTo.append_take {s t u : State} {before after : List Bool} {m : Nat}
    (h : StepsTo before s t) (h' : StepsTo (after.take m) t u) :
    StepsTo ((before ++ after).take (before.length + m)) s u := by
  rw [List.take_length_add_append]
  exact h.append h'

/-- A presented `STEP` (R185). -/
theorem stepsTo_single (btn : Bool) (s : State) :
    ∃ t, StepsTo [btn] s t ∧ t.blk = (stepBlock s.cfg.val btn s.blk).1
      ∧ t.port.resp = some ⟨.ok, (stepBlock s.cfg.val btn s.blk).2⟩ := by
  have hstep := step_of_exec (s := s.present (presentation .step btn)) (decodeOfEncode .step)
    (exec_step _)
  exact ⟨_, ⟨drive_cons hstep [], rfl⟩, rfl, by simp [presentation]⟩

/-! ### A wait -/

/-- A timed phase in which `STEP`s at these levels of `btn` do no more than count (R184, R185). -/
def CountsAt (levels : List Bool) (b : Block) : Prop :=
  b.seq = .settle1 ∨ (b.seq = .travel ∧ ∀ btn ∈ levels, btn = false) ∨ b.seq = .settle2

/-- Short of its last `STEP`, a wait counts and does nothing else but feed the watchdog (R184, R193). -/
theorem stepsTo_count {s : State} {levels : List Bool} (hphase : CountsAt levels s.blk)
    (hlen : levels.length < s.blk.seqCnt.toNat) :
    ∃ t, StepsTo levels s t
      ∧ t.blk = { s.blk with wdgAck := t.blk.wdgAck,
                             seqCnt := BitVec.ofNat 16 (s.blk.seqCnt.toNat - levels.length) } := by
  induction levels generalizing s with
  | nil => exact ⟨s, ⟨rfl, rfl⟩, by simp⟩
  | cons btn levels ih =>
    rw [List.length_cons] at hlen
    have hcount := stepBlock_count s.cfg.val btn (b := s.blk)
      (hphase.imp_right (Or.imp_left fun h => ⟨h.1, h.2 btn (by simp)⟩)) (by omega)
    obtain ⟨t, hstep, hblk, -⟩ := stepsTo_single btn s
    rw [hcount] at hblk
    have hless : t.blk.seqCnt.toNat = s.blk.seqCnt.toNat - 1 := by rw [hblk]; dsimp only; bv_omega
    have hphase' : CountsAt levels t.blk := by
      rw [hblk]
      exact hphase.imp_right (Or.imp_left fun h => ⟨h.1, fun v hv => h.2 v (by simp [hv])⟩)
    obtain ⟨u, hrun, hu⟩ := ih hphase' (by omega)
    refine ⟨u, hstep.append hrun, ?_⟩
    rw [hless, Nat.sub_sub, Nat.add_comm 1] at hu
    rw [hu, hblk, List.length_cons]

/-- During a sequence `STEP` does not see the watchdog countdown (R193). -/
theorem stepBlock_of_busy_wdgAck (p : Params) (btn : Bool) {b : Block} (hbusy : b.seq ≠ .idle)
    (n : U16) : stepBlock p btn { b with wdgAck := n } = stepBlock p btn b := by
  rcases stepBlock_cases p btn b with ⟨hseq, h⟩ | ⟨hseq, h⟩ | ⟨hseq, h⟩ | ⟨hseq, h⟩ | ⟨hseq, h⟩ <;>
    rw [h]
  · exact absurd hseq hbusy
  · exact stepBlock_of_settle1 p btn (b := { b with wdgAck := n }) hseq
  · exact stepBlock_of_travel p btn (b := { b with wdgAck := n }) hseq
  · exact stepBlock_of_settle2 p btn (b := { b with wdgAck := n }) hseq
  · exact stepBlock_of_waitRel p btn (b := { b with wdgAck := n }) hseq

/-- The block that the last `STEP` of a wait finds, but for the watchdog countdown (R184). -/
def lastOfWait (b : Block) : Block := { b with seqCnt := 1#16 }

/-- The `STEP` that ends a wait finds the count at 1 and the rest of the block as the wait found it (R184). -/
theorem stepsTo_waitEnd {s : State} {levels : List Bool} (btn : Bool)
    (hphase : CountsAt levels s.blk) (hlen : levels.length + 1 = s.blk.seqCnt.toNat) :
    ∃ t, StepsTo (levels ++ [btn]) s t
      ∧ t.blk = (stepBlock s.cfg.val btn (lastOfWait s.blk)).1
      ∧ t.port.resp = some ⟨.ok, (stepBlock s.cfg.val btn (lastOfWait s.blk)).2⟩ := by
  have hbusy : s.blk.seq ≠ .idle := by
    rcases hphase with hseq | ⟨hseq, -⟩ | hseq <;> simp [hseq]
  obtain ⟨t, hrun, hblk⟩ := stepsTo_count hphase (by omega)
  obtain ⟨u, hstep, hu, hresp⟩ := stepsTo_single btn t
  have hlast : stepBlock t.cfg.val btn t.blk
      = stepBlock s.cfg.val btn (lastOfWait s.blk) := by
    rw [hrun.2, hblk, show s.blk.seqCnt.toNat - levels.length = 1 by omega]
    exact stepBlock_of_busy_wdgAck _ btn (b := lastOfWait s.blk) hbusy _
  rw [hlast] at hu hresp
  exact ⟨u, hrun.append hstep, hu, hresp⟩

/-! ### The phases of a sequence -/

/-- The settling delay, whatever the button does in it, ends with power on (R188). -/
theorem stepsTo_travel {s : State} {levels : List Bool} (hseq : s.blk.seq = .settle1)
    (hlen : levels.length = s.blk.seqCnt.toNat) (hpos : 1 ≤ s.blk.seqCnt.toNat) :
    ∃ t, StepsTo levels s t
      ∧ t.blk = { s.blk with wdgAck := s.cfg.val.wdgAckReload, drvPwr := true, seq := .travel,
                             seqCnt := travelTime s.cfg.val s.blk.seqDir } := by
  obtain rfl | ⟨before, btn, rfl⟩ := List.eq_nil_or_concat' levels
  · simp only [List.length_nil] at hlen
    omega
  · rw [List.length_append, List.length_singleton] at hlen
    obtain ⟨t, hrun, hblk, -⟩ := stepsTo_waitEnd btn (.inl hseq) hlen
    rw [stepBlock_powerOn _ btn (b := lastOfWait s.blk) hseq rfl] at hblk
    exact ⟨t, hrun, hblk⟩

/-- The travel without a press ends with power off (R189). -/
theorem stepsTo_settle2 {s : State} {n : Nat} (hseq : s.blk.seq = .travel)
    (hlen : n + 1 = s.blk.seqCnt.toNat) :
    ∃ t, StepsTo (List.replicate (n + 1) false) s t
      ∧ t.blk = { s.blk with wdgAck := s.cfg.val.wdgAckReload, drvPwr := false, seq := .settle2,
                             seqCnt := s.cfg.val.tPostSettle } := by
  rw [List.replicate_succ']
  obtain ⟨t, hrun, hblk, -⟩ := stepsTo_waitEnd (levels := List.replicate n false) false
    (.inr (.inl ⟨hseq, fun _ => List.eq_of_mem_replicate⟩)) (by simpa using hlen)
  rw [stepBlock_arrive _ false (b := lastOfWait s.blk) hseq rfl rfl] at hblk
  exact ⟨t, hrun, hblk⟩

/-- The further settle delay of a sequence without a recorded press ends it (R190). -/
theorem stepsTo_completed {s : State} {n : Nat} (hseq : s.blk.seq = .settle2)
    (hpressed : s.blk.seqPressed = false) (hlen : n + 1 = s.blk.seqCnt.toNat) :
    ∃ t, StepsTo (List.replicate (n + 1) false) s t
      ∧ t.blk = finish s.cfg.val .completed
          (refreshWatchdog s.cfg.val (lastOfWait s.blk))
      ∧ t.port.resp = some ⟨.ok, 5#16⟩ := by
  rw [List.replicate_succ']
  obtain ⟨t, hrun, hblk, hresp⟩ := stepsTo_waitEnd (levels := List.replicate n false) false
    (.inr (.inr hseq)) (by simpa using hlen)
  rw [stepBlock_complete _ false (b := lastOfWait s.blk) hseq rfl hpressed] at hblk hresp
  exact ⟨t, hrun, hblk, hresp⟩

/-! ### An uninterrupted sequence (R194) -/

/-- A block whose sequence has just started (R180); `witness_InterruptedSequenceLength` has one. -/
structure JustStarted (p : Params) (b : Block) : Prop where
  seq : b.seq = .settle1
  seqCnt : b.seqCnt = p.tRelaySettle
  seqPressed : b.seqPressed = false

section Uninterrupted

variable {s : State} (h : JustStarted s.cfg.val s.blk)

include h

/-- Power goes on at `STEP` `T_RELAY_SETTLE`, whatever the button does until then (R188). -/
theorem JustStarted.stepsTo_travel {settling : List Bool}
    (hlen : settling.length = s.cfg.val.tRelaySettle.toNat) :
    ∃ t, StepsTo settling s t
      ∧ t.blk = { s.blk with wdgAck := s.cfg.val.wdgAckReload, drvPwr := true, seq := .travel,
                             seqCnt := travelTime s.cfg.val s.blk.seqDir } := by
  obtain ⟨-, -, hsettle, -⟩ := legal_ranges s.cfg
  rw [← h.seqCnt] at hlen hsettle
  exact Proofs.stepsTo_travel h.seq hlen hsettle

/-- It is on while the travel lasts (R189). -/
theorem JustStarted.stepsTo_inTravel {settling : List Bool}
    (hlen : settling.length = s.cfg.val.tRelaySettle.toNat) {j : Nat}
    (hj : j < (travelTime s.cfg.val s.blk.seqDir).toNat) :
    ∃ t, StepsTo (settling ++ List.replicate j false) s t
      ∧ t.blk = { s.blk with wdgAck := t.blk.wdgAck, drvPwr := true, seq := .travel,
                             seqCnt := t.blk.seqCnt } := by
  obtain ⟨a, hrun, ha⟩ := h.stepsTo_travel hlen
  obtain ⟨t, hrun', ht⟩ := stepsTo_count (s := a) (levels := List.replicate j false)
    (.inr (.inl ⟨by rw [ha], fun _ => List.eq_of_mem_replicate⟩)) (by simpa [ha] using hj)
  refine ⟨t, hrun.append hrun', ?_⟩
  rw [ht, ha]

/-- Power goes off at `STEP` `T_RELAY_SETTLE + T_TRAVEL` (R189). -/
theorem JustStarted.stepsTo_settle2 :
    ∃ t, StepsTo (List.replicate (s.cfg.val.tRelaySettle.toNat
          + (travelTime s.cfg.val s.blk.seqDir).toNat) false) s t
      ∧ t.blk = { s.blk with wdgAck := s.cfg.val.wdgAckReload, drvPwr := false, seq := .settle2,
                             seqCnt := s.cfg.val.tPostSettle } := by
  obtain ⟨n, hn⟩ := Nat.exists_eq_add_of_le' (one_le_travelTime s.cfg s.blk.seqDir)
  obtain ⟨t, hrun, hblk⟩ := h.stepsTo_travel List.length_replicate
  obtain ⟨u, hrun', hu⟩ := Proofs.stepsTo_settle2 (s := t) (n := n) (by rw [hblk]) (by rw [hblk, hn])
  rw [List.replicate_add, hn]
  refine ⟨u, hrun.append hrun', ?_⟩
  rw [hu, hrun.2, hblk]

/-- The sequence ends `COMPLETED` at `STEP` `T_RELAY_SETTLE + T_TRAVEL + T_POST_SETTLE` (R190). -/
theorem JustStarted.stepsTo_completed :
    ∃ t, StepsTo (List.replicate (s.cfg.val.tRelaySettle.toNat
          + (travelTime s.cfg.val s.blk.seqDir).toNat + s.cfg.val.tPostSettle.toNat) false) s t
      ∧ t.blk = finish s.cfg.val .completed { s.blk with
          wdgAck := s.cfg.val.wdgAckReload, drvPwr := false, seq := .settle2, seqCnt := 1#16 }
      ∧ t.port.resp = some ⟨.ok, 5#16⟩ := by
  obtain ⟨-, -, -, -, -, hpost⟩ := legal_ranges s.cfg
  obtain ⟨n, hn⟩ := Nat.exists_eq_add_of_le' hpost
  obtain ⟨t, hrun, hblk⟩ := h.stepsTo_settle2
  obtain ⟨u, hrun', hu, hresp⟩ := Proofs.stepsTo_completed (s := t) (n := n) (by rw [hblk])
    (by rw [hblk]; exact h.seqPressed) (by rw [hblk, hn])
  rw [List.replicate_add, hn]
  refine ⟨u, hrun.append hrun', ?_, hresp⟩
  rw [hu, hrun.2, hblk]
  rfl

end Uninterrupted

/-- A lawful block in `SETTLE1` with a full count has just started its sequence, the power off (R191). -/
theorem justStarted_of_lawful {s : State} (hlawful : Lawful s) (hseq : s.blk.seq = .settle1)
    (hcnt : s.blk.seqCnt = s.cfg.val.tRelaySettle) :
    JustStarted s.cfg.val s.blk ∧ s.blk.drvPwr = false := by
  obtain ⟨⟨hpwr, -⟩, ⟨hsettle1, -⟩, -⟩ := hlawful
  obtain ⟨-, -, hpressed⟩ := hsettle1 hseq
  exact ⟨⟨hseq, hcnt, hpressed⟩, by simpa [hseq] using hpwr⟩

/-- Settles O47: the `n`-th `STEP` falls into the settling delay, the travel or the further settle delay, or
it is the last. -/
theorem uninterruptedSequenceLength : Obligations.UninterruptedSequenceLength := by
  intro s n hlawful hseq hcnt t1 t2 t3 hn
  obtain ⟨hstart, hoff⟩ := justStarted_of_lawful hlawful hseq hcnt
  obtain hlt | ⟨m, rfl⟩ : n < t1 ∨ ∃ m, n = t1 + m :=
    (lt_or_ge n t1).imp_right Nat.exists_eq_add_of_le
  · obtain ⟨t, hrun, ht⟩ := stepsTo_count (levels := List.replicate n false) (.inl hseq)
      (by simpa [hcnt] using hlt)
    refine ⟨t, hrun.drive_replicate, ?_, ?_, fun hend => by omega⟩ <;> rw [ht]
    · exact iff_of_false (by simp [hoff]) (by omega)
    · exact iff_of_false (by simp [hseq]) (by omega)
  obtain hlt | ⟨m, rfl⟩ : m < t2 ∨ ∃ m', m = t2 + m' :=
    (lt_or_ge m t2).imp_right Nat.exists_eq_add_of_le
  · obtain ⟨t, hrun, ht⟩ := hstart.stepsTo_inTravel List.length_replicate hlt
    rw [← List.replicate_add] at hrun
    refine ⟨t, hrun.drive_replicate, ?_, ?_, fun hend => by omega⟩ <;> rw [ht]
    · exact iff_of_true rfl (by omega)
    · exact iff_of_false (by simp) (by omega)
  rw [← Nat.add_assoc] at hn ⊢
  obtain hlt | rfl : m < t3 ∨ m = t3 := by omega
  · obtain ⟨a, hrun, ha⟩ := hstart.stepsTo_settle2
    obtain ⟨t, hrun', ht⟩ := stepsTo_count (s := a) (levels := List.replicate m false)
      (.inr (.inr (by rw [ha]))) (by simpa [ha] using hlt)
    have hall := hrun.append hrun'
    rw [← List.replicate_add] at hall
    refine ⟨t, hall.drive_replicate, ?_, ?_, fun hend => by omega⟩ <;> rw [ht, ha]
    · exact iff_of_false (by simp) (by omega)
    · exact iff_of_false (by simp) (by omega)
  · obtain ⟨t, hrun, ht, hresp⟩ := hstart.stepsTo_completed
    obtain ⟨hidle, -, -, -, -, hresult, -, -, hpwr, -⟩ := finish_sequencer s.cfg.val .completed
      { s.blk with
        wdgAck := s.cfg.val.wdgAckReload, drvPwr := false, seq := .settle2, seqCnt := 1#16 }
    rw [← ht] at hidle hresult hpwr
    exact ⟨t, hrun.drive_replicate, iff_of_false (by simp [hpwr]) (by omega), iff_of_true hidle rfl,
      fun _ => ⟨hresult, hresp⟩⟩

/-! ### An interrupted sequence (R194) -/

theorem AwaitsRelease.seq_ne_idle {b : Block} (h : AwaitsRelease b) : b.seq ≠ .idle := by
  rcases h with ⟨hseq, -⟩ | hseq <;> simp [hseq]

/-- The button held on only prolongs the wait for its release (R192). -/
theorem stepsTo_held {s : State} (h : AwaitsRelease s.blk) (hoff : s.blk.drvPwr = false) (held : Nat) :
    ∃ t, StepsTo (List.replicate held true) s t ∧ AwaitsRelease t.blk ∧ t.blk.drvPwr = false := by
  induction held generalizing s with
  | zero => exact ⟨s, ⟨rfl, rfl⟩, h, hoff⟩
  | succ held ih =>
    obtain ⟨t, hstep, hblk, -⟩ := stepsTo_single true s
    obtain ⟨hwait, hoff'⟩ : t.blk.seq = .waitRel ∧ t.blk.drvPwr = false := by
      rcases h with ⟨hseq, hcnt, hpressed⟩ | hseq
      · rw [hblk, stepBlock_hold _ true hseq hcnt hpressed rfl]
        exact ⟨rfl, hoff⟩
      · rw [hblk, stepBlock_wait _ true hseq rfl]
        exact ⟨hseq, hoff⟩
    obtain ⟨u, hrun, hu⟩ := ih (.inr hwait) hoff'
    exact ⟨u, hstep.append hrun, hu⟩

section Interrupted

variable {s : State} (h : JustStarted s.cfg.val s.blk) {settling : List Bool}
  (hsettling : settling.length = s.cfg.val.tRelaySettle.toNat) {j : Nat}
  (hj : j < (travelTime s.cfg.val s.blk.seqDir).toNat)

include h hsettling hj

/-- The press turns it off (R189). -/
theorem JustStarted.stepsTo_pressed :
    ∃ t, StepsTo (settling ++ List.replicate j false ++ [true]) s t
      ∧ t.blk = { s.blk with wdgAck := s.cfg.val.wdgAckReload, drvPwr := false, seq := .settle2,
                             seqCnt := s.cfg.val.tPostSettle, seqPressed := true } := by
  obtain ⟨a, hrun, ha⟩ := h.stepsTo_inTravel hsettling hj
  obtain ⟨t, hstep, ht, -⟩ := stepsTo_single true a
  rw [stepBlock_press _ true (by rw [ha]) rfl, hrun.2] at ht
  refine ⟨t, hrun.append hstep, ?_⟩
  rw [ht, ha]

end Interrupted

section Pressed

variable {s : State} (hseq : s.blk.seq = .settle2) (hpressed : s.blk.seqPressed = true)
  (hoff : s.blk.drvPwr = false) {after : List Bool} (hafter : after.length + 1 = s.blk.seqCnt.toNat)

include hseq hpressed hoff hafter

/-- At the last `STEP` of the further settle delay, and while the button is held from then on, the sequence
awaits the release (R190, R192). -/
theorem stepsTo_awaitsRelease (held : Nat) :
    ∃ t, StepsTo (after ++ List.replicate held true) s t ∧ AwaitsRelease t.blk
      ∧ t.blk.drvPwr = false := by
  obtain ⟨a, hrun, ha⟩ := stepsTo_count (levels := after) (.inr (.inr hseq)) (by omega)
  have hawaits : AwaitsRelease a.blk := by
    rw [ha, show s.blk.seqCnt.toNat - after.length = 1 by omega]
    exact .inl ⟨hseq, rfl, hpressed⟩
  obtain ⟨t, hrun', ht⟩ := stepsTo_held hawaits (by rw [ha]; exact hoff) held
  exact ⟨t, hrun.append hrun', ht⟩

/-- The release ends it `INTERRUPTED` (R192). -/
theorem stepsTo_interrupted (held : Nat) :
    ∃ t, StepsTo (after ++ List.replicate held true ++ [false]) s t ∧ t.blk.drvPwr = false
      ∧ t.blk.seq = .idle ∧ t.blk.lastResult = .interrupted ∧ t.port.resp = some ⟨.ok, 6#16⟩ := by
  obtain ⟨a, hrun, hawaits, -⟩ := stepsTo_awaitsRelease hseq hpressed hoff hafter held
  obtain ⟨t, hstep, ht, hresp⟩ := stepsTo_single false a
  rw [stepBlock_release _ false hawaits rfl] at ht hresp
  dsimp only at ht
  obtain ⟨hidle, -, -, -, -, hresult, -, -, hpwr, -⟩ := finish_sequencer a.cfg.val .interrupted
    (refreshWatchdog a.cfg.val a.blk)
  rw [← ht] at hidle hresult hpwr
  exact ⟨t, hrun.append hstep, hpwr, hidle, hresult, hresp⟩

/-- Before that the sequence is not over, and the power is off. -/
theorem stepsTo_before_release {held m : Nat} (hm : m ≤ after.length + held) :
    ∃ t, StepsTo ((after ++ List.replicate held true ++ [false]).take m) s t
      ∧ t.blk.drvPwr = false ∧ t.blk.seq ≠ .idle := by
  rw [List.take_append_of_le_length (by simpa using hm)]
  obtain hlt | ⟨k, rfl⟩ : m < after.length ∨ ∃ k, m = after.length + k :=
    (lt_or_ge m after.length).imp_right Nat.exists_eq_add_of_le
  · rw [List.take_append_of_le_length hlt.le]
    obtain ⟨t, hrun, ht⟩ := stepsTo_count (levels := after.take m) (.inr (.inr hseq))
      (by rw [List.length_take]; omega)
    refine ⟨t, hrun, ?_⟩
    rw [ht]
    exact ⟨hoff, by simp [hseq]⟩
  · rw [List.take_length_add_append, List.take_replicate, min_eq_left (by omega)]
    obtain ⟨t, hrun, hawaits, hpwr⟩ := stepsTo_awaitsRelease hseq hpressed hoff hafter k
    exact ⟨t, hrun, hpwr, hawaits.seq_ne_idle⟩

end Pressed

/-- Settles O48: the power is on in the travel up to the press; from the press on,
`stepsTo_before_release` and `stepsTo_interrupted` say where the sequence stands. -/
theorem interruptedSequenceLength : Obligations.InterruptedSequenceLength := by
  intro s settling after j held hlawful hseq hcnt hsettling hj hjtravel hafter t1 last levels run
  obtain ⟨hstart, -⟩ := justStarted_of_lawful hlawful hseq hcnt
  obtain ⟨i, rfl⟩ := Nat.exists_eq_add_of_le' hj
  have hi : i < (travelTime s.cfg.val s.blk.seqDir).toNat := hjtravel
  set release := after ++ List.replicate held true ++ [false] with hrelease
  have hlevels : levels = settling ++ List.replicate i false ++ [true] ++ release := by
    simp [levels, release]
  refine ⟨?_, fun n hn hlast => ?_⟩
  · obtain ⟨t, ⟨hrun, -⟩, ht⟩ := hstart.stepsTo_inTravel hsettling hi
    have htake : levels.take (t1 + (i + 1) - 1) = settling ++ List.replicate i false := by
      rw [hlevels, List.append_assoc (settling ++ List.replicate i false)]
      exact List.take_left' (by simp [hsettling, t1])
    refine ⟨t, ?_, by rw [ht]⟩
    simp only [run, htake, hrun]
  · obtain ⟨b, hrun, hb⟩ := hstart.stepsTo_pressed hsettling hi
    have hbseq : b.blk.seq = .settle2 := by rw [hb]
    have hbpressed : b.blk.seqPressed = true := by rw [hb]
    have hboff : b.blk.drvPwr = false := by rw [hb]
    have hbafter : after.length + 1 = b.blk.seqCnt.toNat := by rw [hb]; exact hafter
    obtain ⟨m, rfl⟩ := Nat.exists_eq_add_of_le hn
    have hlen : (settling ++ List.replicate i false ++ [true]).length = t1 + (i + 1) := by
      simp [hsettling, t1]
    have hfrom {t : State} (hrun' : StepsTo (release.take m) b t) :
        run (t1 + (i + 1) + m) = .next t := by
      have hall := (hrun.append_take hrun').1
      rwa [hlen, ← hlevels] at hall
    obtain hle | hend : m ≤ after.length + held ∨ m = after.length + held + 1 := by omega
    · obtain ⟨t, hrun', hpwr, hbusy⟩ :=
        stepsTo_before_release hbseq hbpressed hboff hbafter hle
      exact ⟨t, hfrom hrun', hpwr, iff_of_false hbusy (by omega), fun hend => by omega⟩
    · obtain ⟨t, hrun', hpwr, hidle, hresult, hresp⟩ :=
        stepsTo_interrupted hbseq hbpressed hboff hbafter held
      have hwhole : release.take m = release :=
        List.take_of_length_le (by simp [hrelease, hend, Nat.add_assoc])
      exact ⟨t, hfrom (by rw [hwhole]; exact hrun'), hpwr, iff_of_true hidle (by omega),
        fun _ => ⟨hresult, hresp⟩⟩

/-! ### A held water pre-alarm (R174, R175, R195) -/

/-- An idle machine, Down and Auto, whose threshold and delay line hold the setpoint and whose ratio is below
it: the premises of R195 (c), which every evaluation short of the alarm keeps and which
`witness_HeldWaterPreAlarm` shows to be met. -/
structure PreAlarmHeld (b : Block) : Prop where
  seq : b.seq = .idle
  isDown : b.isDown = true
  isAuto : b.isAuto = true
  threshold : b.threshold = b.filt[3]
  spD1 : b.spD1 = b.filt[3]
  spD2 : b.spD2 = b.filt[3]
  ratio_lt : ratioNow b < b.filt[3].toNat

section PreAlarmHeld

variable {p : Params} {b : Block} (h : PreAlarmHeld b)

include h

theorem PreAlarmHeld.downNow_eq_true : downNow false b = true := h.isDown

theorem PreAlarmHeld.preAlarmNow_eq_true : preAlarmNow b = true := by
  rw [preAlarmNow, h.threshold]
  exact decide_eq_true h.ratio_lt

/-- Each evaluation counts one more pre-alarm (R174). -/
theorem PreAlarmHeld.countNext_eq_min :
    countNext p false b = min (b.waterAlarmCount.toNat + 1) p.waterAlmTime.toNat := by
  rw [countNext, if_pos h.preAlarmNow_eq_true, if_neg Bool.false_ne_true]

/-- The water alarm fires when the count reaches `WATER_ALM_TIME` (R174). -/
theorem PreAlarmHeld.waterAlarmNow_eq_decide :
    waterAlarmNow p false b = decide (p.waterAlmTime.toNat ≤ b.waterAlarmCount.toNat + 1) := by
  rw [waterAlarmNow, h.countNext_eq_min, decide_eq_decide]
  omega

/-- Without a wind pre-alarm that is the only alarm (R170). -/
theorem PreAlarmHeld.alarmNow_eq_decide :
    alarmNow p false false b = decide (p.waterAlmTime.toNat ≤ b.waterAlarmCount.toNat + 1) := by
  rw [alarmNow, h.waterAlarmNow_eq_decide, windAlarmNow, Bool.false_and, Bool.or_false]

/-- At the setpoint the threshold stays there (R152). -/
theorem PreAlarmHeld.thresholdNext_eq : thresholdNext p false b = b.filt[3].toNat := by
  simp [thresholdNext, h.downNow_eq_true, snappedThreshold, h.spD2, distance, h.threshold]

/-- An evaluation keeps the premises. -/
theorem PreAlarmHeld.evaluate_keeps : PreAlarmHeld (evaluate p false false b).blk := by
  have hthreshold : (evaluate p false false b).blk.threshold = b.filt[3] := by
    rw [← BitVec.toNat_inj, evaluate_threshold_toNat, h.thresholdNext_eq]
  rw [evaluate_frame]
  have hratio := h.ratio_lt
  rw [ratioNow] at hratio
  exact ⟨h.seq, h.isDown, h.isAuto, hthreshold, rfl, h.spD1, hratio⟩

/-- Short of the alarm part 5 does nothing (R178). -/
theorem PreAlarmHeld.tickBlock_eq_evaluate (btn : Bool)
    (hlt : b.waterAlarmCount.toNat + 1 < p.waterAlmTime.toNat) :
    tickBlock p btn false false b = (evaluate p false false b).blk := by
  have hquiet : alarmNow p false false b = false := by
    rw [h.alarmNow_eq_decide]
    exact decide_eq_false (by omega)
  rw [tickBlock, evaluationTransition_nothing (.inl h.downNow_eq_true) hquiet, applyTransition]

end PreAlarmHeld

/-- Evaluations short of the alarm count the pre-alarm and keep the premises. -/
theorem PreAlarmHeld.drive_ticks {s : State} (h : PreAlarmHeld s.blk) {n : Nat}
    (hlt : s.blk.waterAlarmCount.toNat + n < s.cfg.val.waterAlmTime.toNat) :
    ∃ t, drive (List.replicate n (presentation (.tick1s false false) false)) s = .next t
      ∧ t.cfg = s.cfg ∧ PreAlarmHeld t.blk
      ∧ t.blk.waterAlarmCount.toNat = s.blk.waterAlarmCount.toNat + n := by
  induction n generalizing s with
  | zero => exact ⟨s, rfl, rfl, h, rfl⟩
  | succ n ih =>
    obtain ⟨t, hstep, hcfg, hblk⟩ := presentAndStep_tick1s_of_idle false false false h.seq
    rw [h.tickBlock_eq_evaluate false (by omega)] at hblk
    have hcount : t.blk.waterAlarmCount.toNat = s.blk.waterAlarmCount.toNat + 1 := by
      rw [hblk, evaluate_waterAlarmCount_toNat, h.countNext_eq_min]
      omega
    have hnext : PreAlarmHeld t.blk := by
      rw [hblk]
      exact h.evaluate_keeps
    obtain ⟨u, hrun, hcfg', hu, hcount'⟩ := ih hnext (by rw [hcfg]; omega)
    exact ⟨u, (drive_cons hstep _).trans hrun, hcfg'.trans hcfg, hu, by omega⟩

/-- The evaluation at which the alarm fires starts the raise and answers it, with the flags `water_pre` and
`water_alarm` (R90, R175). -/
theorem PreAlarmHeld.raises {s : State} (h : PreAlarmHeld s.blk)
    (hlast : s.blk.waterAlarmCount.toNat + 1 = s.cfg.val.waterAlmTime.toNat) :
    ∃ t, presentAndStep (presentation (.tick1s false false) false) s = .next t ∧ t.cfg = s.cfg
      ∧ t.blk = beginSequence s.cfg.val .up .raise (evaluate s.cfg.val false false s.blk).blk
      ∧ t.port.resp = some ⟨.ok, 0x0015#16⟩ := by
  have halarm : alarmNow s.cfg.val false false s.blk = true := by
    rw [h.alarmNow_eq_decide]
    exact decide_eq_true hlast.ge
  have hwater : waterAlarmNow s.cfg.val false s.blk = true := by
    rw [h.waterAlarmNow_eq_decide]
    exact decide_eq_true hlast.ge
  have hraise : evaluationTransition (evaluate s.cfg.val false false s.blk) = .raise :=
    evaluationTransition_raise h.downNow_eq_true halarm
  have hflags : evaluationFlags (evaluate s.cfg.val false false s.blk) = 5#4 := by
    rw [evaluationFlags, evaluate_windPre, evaluate_waterPre, evaluate_windAlarm, evaluate_waterAlarm,
      h.preAlarmNow_eq_true, hwater, windAlarmNow, Bool.false_and]
    rfl
  have hexec := exec_tick1s_of_idle false false (s.present (presentation (.tick1s false false) false))
    h.seq
  simp only [State.present_cfg, State.present_blk, State.present_port_btn, tickBlock, hraise, hflags]
    at hexec
  exact ⟨_, step_of_exec (decodeOfEncode (.tick1s false false)) hexec, rfl, rfl, by simp; rfl⟩

/-- Settles O54: `WATER_ALM_TIME - 1` evaluations count, the next one starts the raise, and its sequence runs
to the end uninterrupted. -/
theorem heldWaterPreAlarmRaisesTheAwning : Obligations.HeldWaterPreAlarmRaisesTheAwning := by
  intro s n hseq hdown hauto hcount hthr hspD1 hspD2 hratio tick w len
  have hheld : PreAlarmHeld s.blk := ⟨hseq, hdown, hauto, hthr, hspD1, hspD2, hratio⟩
  have hzero : s.blk.waterAlarmCount.toNat = 0 := by rw [hcount]; rfl
  obtain ⟨-, htime, -⟩ := legal_ranges s.cfg
  obtain ⟨m, hm⟩ := Nat.exists_eq_add_of_le' htime
  obtain ⟨a, hrun, hcfg, ha, hcounted⟩ := hheld.drive_ticks (n := m) (by omega)
  obtain ⟨t, hstep, htcfg, htblk, hresp⟩ := ha.raises (by rw [hcfg]; omega)
  have hraised : drive (List.replicate w tick) s = .next t := by
    have hw : List.replicate w tick = List.replicate m tick ++ [tick] := by
      rw [← List.replicate_succ', ← hm]
    rw [hw, drive_append hrun, drive_cons hstep]
    rfl
  refine ⟨fun hlt => ?_, ⟨t, hraised, by rw [htblk]; rfl, by rw [htblk]; rfl, hresp⟩, ?_⟩
  · obtain ⟨u, hrun', -, hu, hcounted'⟩ := hheld.drive_ticks (n := n) (by omega)
    exact ⟨u, hrun', hu.seq, by omega⟩
  · have hstart : JustStarted t.cfg.val t.blk := by
      rw [htblk, htcfg]
      exact ⟨rfl, rfl, rfl⟩
    obtain ⟨u, hrun', hu, -⟩ := hstart.stepsTo_completed
    have hsteps := hrun'.drive_replicate
    have hdir : t.blk.seqDir = .up := by rw [htblk]; rfl
    have hcont : t.blk.seqCont = .raise := by rw [htblk]; rfl
    have hmode : t.blk.isAuto = true := by rw [htblk, beginSequence_isAuto, ha.evaluate_keeps.isAuto]
    rw [hdir, htcfg, hcfg] at hsteps
    rw [finish, hcont] at hu
    refine ⟨u, (drive_append hraised _).trans hsteps, ?_⟩
    rw [hu, htcfg, hcfg]
    exact ⟨rfl, hmode, rfl, rfl, rfl, rfl⟩

end Sys2Proof.Proofs
end

section
/-! PROOFS. The system operations (44_system.md R210, R211): `NOP` and `WDGACK`, and the runs from which the
`NOP`s are removed. A step answers by the parameters, the block and the presentation (`step_answers_alike`), so
two runs whose machines differ in the port alone stay alike, and a `NOP` changes the port alone. -/

namespace Sys2Proof.Proofs

open Sys2Proof.Machine

/-! ### The two operations -/

theorem exec_nop (s : State) : exec .nop s = .next (s.answered s.blk .ok 0#16) := rfl

theorem exec_wdgack (s : State) :
    exec .wdgack s = .next (s.answered (refreshWatchdog s.cfg.val s.blk) .ok 0#16) := rfl

theorem decode_zero : decode 0x000000#24 = .ok .nop := decodeOfEncode .nop

/-- Settles O22: the word is the encoding, and the refresh writes `wdg_ack` alone. -/
theorem watchdogAckReloads : Obligations.WatchdogAckReloads :=
  ⟨decodeOfEncode .wdgack, exec_wdgack⟩

/-! ### One presentation -/

/-- A presented `NOP` writes the port alone. -/
theorem presentAndStep_nop {i : Input} (hnop : i.cmd = 0x000000#24) (s : State) :
    ∃ t, presentAndStep i s = .next t ∧ t.cfg = s.cfg ∧ t.blk = s.blk :=
  have hdecode : decode (s.present i).port.cmd = .ok .nop := by
    rw [State.present_port_cmd, hnop, decode_zero]
  ⟨_, step_of_exec hdecode (exec_nop _), rfl, rfl⟩

/-- Machines that differ in the port alone answer a presentation alike, and differ in the port alone after
it. -/
theorem presentAndStep_alike {s t : State} (hcfg : t.cfg = s.cfg) (hblk : t.blk = s.blk) (i : Input) :
    ∃ s' t', presentAndStep i s = .next s' ∧ presentAndStep i t = .next t'
      ∧ t'.cfg = s'.cfg ∧ t'.blk = s'.blk ∧ t'.port.resp = s'.port.resp := by
  obtain ⟨b, st, d, hs, ht⟩ := step_answers_alike (s := s.present i) (t := t.present i)
    hcfg hblk rfl rfl
  exact ⟨_, _, hs, ht, hcfg, rfl, by simp⟩

theorem answers_cons {s t : State} {i : Input} (h : presentAndStep i s = .next t) (rest : List Input) :
    answers (i :: rest) s = (i.cmd, t.port.resp) :: answers rest t := by
  rw [answers, h, stateAfter]

/-! ### Runs without their `NOP`s (R210) -/

/-- Whether a word is kept when the `NOP`s are removed from a stream of operations. -/
def notNop (w : CmdWord) : Bool := decide (w ≠ 0x000000#24)

theorem notNop_of_eq {w : CmdWord} (h : w = 0x000000#24) : notNop w = false :=
  decide_eq_false (not_not_intro h)

theorem notNop_of_ne {w : CmdWord} (h : w ≠ 0x000000#24) : notNop w = true := decide_eq_true h

/-- By induction on the presentations, from machines that differ in the port alone: at a `NOP` only the full
run moves on, and stays alike; at any other word both runs move on alike. -/
theorem drive_without_nops (is : List Input) {s t : State} (hcfg : t.cfg = s.cfg) (hblk : t.blk = s.blk) :
    ∃ u v, drive is s = .next u ∧ drive (is.filter fun i => notNop i.cmd) t = .next v ∧ v.blk = u.blk
      ∧ answers (is.filter fun i => notNop i.cmd) t = (answers is s).filter fun a => notNop a.1 := by
  induction is generalizing s t with
  | nil => exact ⟨s, t, rfl, rfl, hblk, rfl⟩
  | cons i rest ih =>
    by_cases hnop : i.cmd = 0x000000#24
    · obtain ⟨s', hstep, hcfg', hblk'⟩ := presentAndStep_nop hnop s
      simp only [drive_cons hstep, answers_cons hstep, List.filter_cons, notNop_of_eq hnop,
        Bool.false_eq_true, if_false]
      exact ih (hcfg.trans hcfg'.symm) (hblk.trans hblk'.symm)
    · obtain ⟨s', t', hs, ht, hcfg', hblk', hresp⟩ := presentAndStep_alike hcfg hblk i
      simp only [drive_cons hs, answers_cons hs, List.filter_cons, notNop_of_ne hnop, if_true,
        drive_cons ht, answers_cons ht, hresp]
      obtain ⟨u, v, hfull, hlive, hend, hanswers⟩ := ih hcfg' hblk'
      exact ⟨u, v, hfull, hlive, hend, congrArg _ hanswers⟩

/-- Settles O21: both runs start from one machine. -/
theorem nopsCanBeRemovedFromARun : Obligations.NopsCanBeRemovedFromARun := by
  refine ⟨decode_zero, exec_nop, fun is s => ?_⟩
  obtain ⟨u, v, hfull, hlive, hend, hanswers⟩ := drive_without_nops is (s := s) rfl rfl
  refine ⟨?_, hanswers⟩
  calc (stateAfter s (drive (is.filter fun i => notNop i.cmd) s)).blk
      = v.blk := by rw [hlive, stateAfter]
    _ = u.blk := hend
    _ = (stateAfter s (drive is s)).blk := by rw [hfull, stateAfter]

end Sys2Proof.Proofs
end

section
/-! PROOFS. Refusals and the watchdog (60_exceptions.md R221 to R226, R228; 70_reset_and_hazards.md R257). The
status of an operation is a function of the parameters and the block (`statusOf`), which says where an operation
is refused and where it is executed; a run within the budget of idle `STEP`s keeps the step lemma's invariant, and
a run of idle `STEP`s without a refresh counts to the reset. -/

namespace Sys2Proof.Proofs

open Sys2Proof.Machine

/-! ### The status of an operation -/

/-- The indices that the status view does not have (R50). -/
abbrev ReservedIndex (p : Params) (idx : BitVec 5) : Prop :=
  (13 ≤ idx.toNat ∧ idx.toNat ≤ 15) ∨ (16 ≤ idx.toNat ∧ p.k ≤ idx.toNat - 16)

/-- The table of R224. -/
def statusOf (p : Params) (b : Block) (i : Instr) : Status :=
  match i with
  | .tick1s _ _ => if b.seq = .idle then .ok else .busy
  | .move _ => if b.seq = .idle then .ok else .busy
  | .rdstat idx => if ReservedIndex p idx then .illegal else .ok
  | _ => .ok

/-- Indices 0 to 12 are registers (R50). -/
theorem statusRegister_isSome_of_le (p : Params) (b : Block) {idx : BitVec 5} (h : idx.toNat ≤ 12) :
    (statusRegister p b idx).isSome := by
  unfold statusRegister
  interval_cases idx.toNat <;> rfl

theorem statusRegister_eq_none_iff (p : Params) (b : Block) (idx : BitVec 5) :
    statusRegister p b idx = none ↔ ReservedIndex p idx := by
  rcases Nat.lt_or_ge idx.toNat 16 with hlow | hhigh
  · rcases Nat.lt_or_ge idx.toNat 13 with hregister | hhole
    · have hsome := statusRegister_isSome_of_le p b (Nat.le_of_lt_succ hregister)
      exact iff_of_false (Option.isSome_iff_ne_none.mp hsome) (by omega)
    · exact iff_of_true (statusRegister_of_hole p b idx hhole (by omega)) (.inl ⟨hhole, by omega⟩)
  · rw [statusRegister_of_timer p b idx (idx.toNat - 16) (by omega)]
    have hreserved : ReservedIndex p idx ↔ ¬ idx.toNat - 16 < p.k := by omega
    simp [hreserved]

/-- An operation whose status is not `OK` is refused with that status (R221 to R223). -/
theorem exec_of_status_ne_ok {i : Instr} {s : State} (h : statusOf s.cfg.val s.blk i ≠ .ok) :
    exec i s = .next (s.refuse (statusOf s.cfg.val s.blk i)) := by
  cases i with
  | tick1s wp bp =>
    have hseq : s.blk.seq ≠ .idle := fun hidle => h (if_pos hidle)
    rw [exec_tick1s_of_busy wp bp s hseq, statusOf, if_neg hseq]
  | move d =>
    have hseq : s.blk.seq ≠ .idle := fun hidle => h (if_pos hidle)
    rw [exec_move_of_busy d s hseq, statusOf, if_neg hseq]
  | rdstat idx =>
    have hreserved : ReservedIndex s.cfg.val idx := by_contra fun hmapped => h (if_neg hmapped)
    rw [exec_rdstat_of_none ((statusRegister_eq_none_iff ..).mpr hreserved), statusOf,
      if_pos hreserved, State.refuse]
  | nop | sample | rdfilt | step | wdgack => exact absurd rfl h

/-- An operation whose status is `OK` is executed. -/
theorem exec_of_status_eq_ok {i : Instr} {s : State} (h : statusOf s.cfg.val s.blk i = .ok) :
    ∃ b d, exec i s = .next (s.answered b .ok d) := by
  cases i with
  | nop => exact ⟨_, _, exec_nop s⟩
  | sample ch raw => exact ⟨_, _, exec_sample ch raw s⟩
  | rdfilt ch => exact ⟨_, _, exec_rdfilt ch s⟩
  | step => exact ⟨_, _, exec_step s⟩
  | wdgack => exact ⟨_, _, exec_wdgack s⟩
  | tick1s wp bp =>
    have hseq : s.blk.seq = .idle := by_contra fun hbusy => by simp [statusOf, hbusy] at h
    exact ⟨_, _, exec_tick1s_of_idle wp bp s hseq⟩
  | move d =>
    have hseq : s.blk.seq = .idle := by_contra fun hbusy => by simp [statusOf, hbusy] at h
    exact ⟨_, _, exec_move_of_idle d s hseq⟩
  | rdstat idx =>
    have hmapped : ¬ ReservedIndex s.cfg.val idx := fun hreserved => by
      rw [statusOf, if_pos hreserved] at h
      cases h
    obtain ⟨v, hview⟩ := Option.ne_none_iff_exists'.mp
      (mt (statusRegister_eq_none_iff s.cfg.val s.blk idx).mp hmapped)
    exact ⟨_, _, exec_rdstat_of_some hview⟩

/-- Settles O10: an operation is executed or refused, as `statusOf` says; an undecodable word is refused by
`step` itself. -/
theorem statusOfEachOperation : Obligations.StatusOfEachOperation := by
  refine ⟨fun i s => ?_, fun s ⟨e, hdecode⟩ => ?_⟩
  · by_cases hok : statusOf s.cfg.val s.blk i = .ok
    · obtain ⟨b, d, hexec⟩ := exec_of_status_eq_ok hok
      exact ⟨_, _, hexec, rfl, hok.symm⟩
    · exact ⟨_, _, exec_of_status_ne_ok hok, rfl, rfl⟩
  · have hstep : step s = .next (s.refuse .illegal).advance := by rw [step, hdecode]
    exact ⟨_, ⟨.illegal, 0#16⟩, hstep, by simp, rfl⟩

/-- Settles O11: `statusOf` does not see the port, so the same operation is refused at either level of `btn`. -/
theorem refusalChangesNothing : Obligations.RefusalChangesNothing := by
  intro i s t r hexec hresp hstatus
  by_cases hok : statusOf s.cfg.val s.blk i = .ok
  · obtain ⟨b, d, haccepted⟩ := exec_of_status_eq_ok hok
    cases hexec.symm.trans haccepted
    cases hresp
    exact absurd rfl hstatus
  · cases hexec.symm.trans (exec_of_status_ne_ok hok)
    cases hresp
    exact ⟨rfl, rfl, rfl, fun v =>
      exec_of_status_ne_ok (s := { s with port := { s.port with btn := v } }) hok⟩

/-! ### The watchdog without a refresh -/

/-- An idle `STEP` with the watchdog run out (R226). -/
theorem stepBlock_reset (p : Params) (btn : Bool) {b : Block} (hseq : b.seq = .idle)
    (hack : b.wdgAck = 0#16) : stepBlock p btn b = (Block.reset p, 8#16) :=
  (stepBlock_of_idle p btn hseq).trans (if_pos hack)

/-- As many idle `STEP`s as the countdown holds do no more than count it down, whatever the button does. -/
theorem stepsTo_idle {s : State} {levels : List Bool} (hseq : s.blk.seq = .idle)
    (hlen : levels.length ≤ s.blk.wdgAck.toNat) :
    ∃ t, StepsTo levels s t
      ∧ t.blk = { s.blk with wdgAck := BitVec.ofNat 16 (s.blk.wdgAck.toNat - levels.length) } := by
  induction levels generalizing s with
  | nil => exact ⟨s, ⟨rfl, rfl⟩, by simp⟩
  | cons btn levels ih =>
    rw [List.length_cons] at hlen
    have hack : s.blk.wdgAck ≠ 0#16 := by bv_omega
    obtain ⟨t, hstep, hblk, -⟩ := stepsTo_single btn s
    rw [stepBlock_idle s.cfg.val btn hseq hack] at hblk
    have hless : t.blk.wdgAck.toNat = s.blk.wdgAck.toNat - 1 := by rw [hblk]; dsimp only; bv_omega
    obtain ⟨u, hrun, hu⟩ := ih (s := t) (by rw [hblk]; exact hseq) (by omega)
    refine ⟨u, hstep.append hrun, ?_⟩
    rw [hless, Nat.sub_sub, Nat.add_comm 1] at hu
    rw [hu, hblk, List.length_cons]

/-- Settles O49: `wdg_ack` idle `STEP`s leave the countdown at 0, where the next one resets. -/
theorem unrefreshedWatchdogResets : Obligations.UnrefreshedWatchdogResets := by
  intro s btn hseq
  have hcount (n : Nat) (hn : n ≤ s.blk.wdgAck.toNat) :=
    stepsTo_idle (levels := List.replicate n btn) hseq (by rwa [List.length_replicate])
  simp only [List.length_replicate] at hcount
  refine ⟨fun n hn => ?_, ?_⟩
  · obtain ⟨t, hrun, hblk⟩ := hcount n hn
    exact ⟨t, hrun.drive_replicate, hblk⟩
  · obtain ⟨t, hrun, hblk⟩ := hcount _ le_rfl
    obtain ⟨u, hlast, hreset, hresp⟩ := stepsTo_single btn t
    have hout : stepBlock t.cfg.val btn t.blk = (Block.reset s.cfg.val, 8#16) := by
      rw [hrun.2, hblk]
      exact stepBlock_reset _ _ hseq (by simp)
    rw [hout] at hreset hresp
    have hall := hrun.append hlast
    rw [← List.replicate_succ'] at hall
    exact ⟨u, hall.drive_replicate, hreset, hresp⟩

/-! ### The fed watchdog -/

theorem watchdogFed_cons {left : Nat} {i : Input} {rest : List Input} {s t : State}
    (hstep : presentAndStep i s = .next t) (h : watchdogFed left (i :: rest) s = true) :
    ∃ left', budgetNext left s i.cmd = some left' ∧ watchdogFed left' rest t = true := by
  rw [watchdogFed] at h
  cases hbudget : budgetNext left s i.cmd with
  | none => simp [hbudget] at h
  | some left' =>
    rw [hbudget, hstep, stateAfter] at h
    exact ⟨left', rfl, h⟩

/-- Settles O50, by induction on the presentations: `FedWatchdogStepKeepsTheBudget` is its step. -/
theorem fedWatchdogNeverResets : Obligations.FedWatchdogNeverResets := by
  intro is s left hlawful hle hfed
  induction is generalizing s left with
  | nil => exact List.forall_mem_nil _
  | cons i rest ih =>
    obtain ⟨b, st, d, hstep⟩ := step_eq_next_answered (s.present i)
    obtain ⟨left', hbudget, hrest⟩ := watchdogFed_cons hstep hfed
    obtain ⟨hlawful', hle', hreport⟩ :=
      fedWatchdogStepKeepsTheBudget (s.present i) _ left left' hlawful hle hbudget hstep
    rw [answers_cons hstep, List.forall_mem_cons]
    exact ⟨hreport, ih _ left' hlawful' hle' hrest⟩

end Sys2Proof.Proofs
end
